-- ==== Sys2Proof/Word.lean ====
section
/-! DEFINITION. The plainest types of the CB-2408 model: bytes on the wire, converter codes, round
numbers and the numbers that select a table entry. -/

namespace Sys2Proof

/-- One byte of a frame or of the stored image. -/
abbrev Byte := BitVec 8

/-- A converter reading, 0 to 4095 (Introduction, Table 3 "Code"; R23, R84). -/
abbrev Code := Fin 4096

/-- The bias monitor's reading in 0.1 V, 0 to 400 (R78, Table 5.3). -/
abbrev BiasReading := Fin 401

/-- The round number, an unsigned 32-bit count that wraps (R65). -/
abbrev Round := BitVec 32

/-- LINE 0 to LINE 23. -/
abbrev LineId := Fin 24

/-- AMP 0 to AMP 7. -/
abbrev AmpId := Fin 8

/-- A fire zone, 0 to 15 (Table 1.2). -/
abbrev Zone := Fin 16

/-- A threshold profile, P0 to P3 (R11). -/
abbrev ProfileId := Fin 4

/-- A notice level, 0 to 7 (R13). -/
abbrev Level := Fin 8

end Sys2Proof
end

