-- ==== Sys2Proof/Syntax.lean ====
section
/-! DEFINITION. The commands of the CB-2408: one constructor per row of spec/opcode_table.json.

A request command is the arrival of one whole frame on a port: its destination address byte, and its payload
bytes (R155, R161); its kind byte is fixed by the constructor. An event command names an event of the world or
of one of the part's timers, with the readings the event brings (R23, R83, R84, R98). -/

namespace Sys2Proof

/-- The two controller ports (R155). -/
inductive Port where
  | portA
  | portB
  deriving DecidableEq, Repr

/-- Which of two things that follow from one free report of LCONV is taken first (R82: "They may be taken in
either order"): EBRG's act, or SEQ's grant decision. The world chooses. -/
inductive RaceOrder where
  | earthFirst
  | seqFirst
  deriving DecidableEq, Repr

/-- Why a frame is dropped at its check (R155). -/
inductive DropReason where
  | lengthByte
  | crc
  deriving DecidableEq, Repr

/-- The two fault outputs (R149). -/
inductive OutputId where
  | fltA
  | fltB
  deriving DecidableEq, Repr

/-- The commands, in the order of spec/opcode_table.json. -/
inductive Instr where
  -- requests that read (Chapter 10, Table 10.6)
  | identify (p : Port) (dest : Byte) (payload : List Byte)
  | status (p : Port) (dest : Byte) (payload : List Byte)
  | poll (p : Port) (dest : Byte) (payload : List Byte)
  | readLine (p : Port) (dest : Byte) (payload : List Byte)
  | readAmp (p : Port) (dest : Byte) (payload : List Byte)
  | readDevice (p : Port) (dest : Byte) (payload : List Byte)
  | readSummary (p : Port) (dest : Byte) (payload : List Byte)
  | readProfile (p : Port) (dest : Byte) (payload : List Byte)
  | readScan (p : Port) (dest : Byte) (payload : List Byte)
  | readOutputs (p : Port) (dest : Byte) (payload : List Byte)
  -- setting requests
  | setLine (p : Port) (dest : Byte) (payload : List Byte) (order : RaceOrder)
  | setAmp (p : Port) (dest : Byte) (payload : List Byte) (order : RaceOrder)
  | setAmpWide (p : Port) (dest : Byte) (payload : List Byte)
  | setProfile (p : Port) (dest : Byte) (payload : List Byte)
  | setLevels (p : Port) (dest : Byte) (payload : List Byte)
  | setScan (p : Port) (dest : Byte) (payload : List Byte)
  | setPilot (p : Port) (dest : Byte) (payload : List Byte) (order : RaceOrder)
  | setEarth (p : Port) (dest : Byte) (payload : List Byte)
  | setOutput (p : Port) (dest : Byte) (payload : List Byte)
  | setGroups (p : Port) (dest : Byte) (payload : List Byte)
  -- actions
  | learn (p : Port) (dest : Byte) (payload : List Byte)
  | abortLearn (p : Port) (dest : Byte) (payload : List Byte)
  | testInject (p : Port) (dest : Byte) (payload : List Byte)
  | clearLatch (p : Port) (dest : Byte) (payload : List Byte)
  | clearMinmax (p : Port) (dest : Byte) (payload : List Byte)
  | emergency (p : Port) (dest : Byte) (payload : List Byte)
  | freeze (p : Port) (dest : Byte) (payload : List Byte)
  | unfreeze (p : Port) (dest : Byte) (payload : List Byte)
  | saveImage (p : Port) (dest : Byte) (payload : List Byte)
  | restart (p : Port) (dest : Byte) (payload : List Byte)
  -- frames and replies on the ports (R155 to R158)
  | unknownKind (p : Port) (dest : Byte) (kind : Byte) (payload : List Byte)
  | frameDropped (p : Port) (why : DropReason)
  | frameGapTimeout (p : Port)
  | receiveOverrun (p : Port) (dest : Byte) (kind : Byte)
  | replySent (p : Port)
  -- restarts and the stored image (Chapter 11)
  | softRestart
  | powerOn
  | pinReset
  /-- The straps as read at the release of reset (R167): the six address straps as a number, most significant
  bit first in the order of their pins; the baud strap and the configuration source strap, true for a strap tied high. -/
  | resetRelease (addrStraps : BitVec 6) (baudStrap : Bool) (sourceStrap : Bool)
  /-- The image read ends (R168); `ack` says whether the memory acknowledged. -/
  | loadStepEnd (ack : Bool)
  /-- The image write ends (R171): whether the memory acknowledged throughout, and the bytes read back. -/
  | imageWriteEnd (ack : Bool) (readBack : List Byte)
  /-- The EVAC pin changes to low (true, the contact closed) or to high (R15). -/
  | evacPinChange (low : Bool)
  | evacFilterExpiry
  -- measurement (Chapter 2)
  | settleBlockEnd
  /-- A sample block ends with its three codes (R23). The two contact levels (closed = true) and the order of
  the acts that follow the free report are used when this block completes the measurement (R27, R82, R98). -/
  | sampleBlockEnd (v i prog : Code) (thermalClosed supplyClosed : Bool) (order : RaceOrder)
  /-- The period counter completes sixteen cycles with the count `count` (R26). -/
  | periodCountComplete (count : Nat)
  | periodCountGiveUp
  | periodWaitExpiry
  -- earth bridge (Chapter 5)
  | soakEnd (bias : BiasReading)
  | leakageBlockEnd (code : Code)
  -- timers
  | pulsePhaseExpiry (o : OutputId)
  | freezeExpiry
  -- the receivers and the supply
  | frameStart (p : Port)
  | frameIgnored (p : Port) (dest : Byte) (kind : Byte)
  | replyBegin (p : Port)
  | powerLoss
  deriving DecidableEq, Repr

/-- The kind byte of a request command (Table 10.6); none for the other commands. -/
def Instr.kindByte : Instr → Option Byte
  | .identify .. => some 0x01
  | .status .. => some 0x02
  | .poll .. => some 0x03
  | .readLine .. => some 0x04
  | .readAmp .. => some 0x05
  | .readDevice .. => some 0x06
  | .readSummary .. => some 0x07
  | .readProfile .. => some 0x08
  | .readScan .. => some 0x09
  | .readOutputs .. => some 0x0A
  | .setLine .. => some 0x21
  | .setAmp .. => some 0x22
  | .setAmpWide .. => some 0x23
  | .setProfile .. => some 0x24
  | .setLevels .. => some 0x25
  | .setScan .. => some 0x26
  | .setPilot .. => some 0x27
  | .setEarth .. => some 0x28
  | .setOutput .. => some 0x29
  | .setGroups .. => some 0x2A
  | .learn .. => some 0x41
  | .abortLearn .. => some 0x42
  | .testInject .. => some 0x43
  | .clearLatch .. => some 0x44
  | .clearMinmax .. => some 0x45
  | .emergency .. => some 0x46
  | .freeze .. => some 0x47
  | .unfreeze .. => some 0x48
  | .saveImage .. => some 0x49
  | .restart .. => some 0x4A
  | .unknownKind _ _ kind _ => some kind
  | .frameDropped .. | .frameGapTimeout .. | .receiveOverrun .. | .replySent .. | .softRestart | .powerOn
  | .pinReset | .resetRelease .. | .loadStepEnd .. | .imageWriteEnd .. | .evacPinChange .. | .evacFilterExpiry
  | .settleBlockEnd | .sampleBlockEnd .. | .periodCountComplete .. | .periodCountGiveUp | .periodWaitExpiry
  | .soakEnd .. | .leakageBlockEnd .. | .pulsePhaseExpiry .. | .freezeExpiry | .frameStart .. | .frameIgnored ..
  | .replyBegin .. | .powerLoss => none

/-- The payload of a request command; none for the other commands. -/
def Instr.payload : Instr → Option (List Byte)
  | .identify _ _ pl | .status _ _ pl | .poll _ _ pl | .readLine _ _ pl | .readAmp _ _ pl | .readDevice _ _ pl
  | .readSummary _ _ pl | .readProfile _ _ pl | .readScan _ _ pl | .readOutputs _ _ pl | .setLine _ _ pl _
  | .setAmp _ _ pl _ | .setAmpWide _ _ pl | .setProfile _ _ pl | .setLevels _ _ pl | .setScan _ _ pl
  | .setPilot _ _ pl _ | .setEarth _ _ pl | .setOutput _ _ pl | .setGroups _ _ pl | .learn _ _ pl
  | .abortLearn _ _ pl | .testInject _ _ pl | .clearLatch _ _ pl | .clearMinmax _ _ pl | .emergency _ _ pl
  | .freeze _ _ pl | .unfreeze _ _ pl | .saveImage _ _ pl | .restart _ _ pl | .unknownKind _ _ _ pl => some pl
  | .frameDropped .. | .frameGapTimeout .. | .receiveOverrun .. | .replySent .. | .softRestart | .powerOn
  | .pinReset | .resetRelease .. | .loadStepEnd .. | .imageWriteEnd .. | .evacPinChange .. | .evacFilterExpiry
  | .settleBlockEnd | .sampleBlockEnd .. | .periodCountComplete .. | .periodCountGiveUp | .periodWaitExpiry
  | .soakEnd .. | .leakageBlockEnd .. | .pulsePhaseExpiry .. | .freezeExpiry | .frameStart .. | .frameIgnored ..
  | .replyBegin .. | .powerLoss => none

/-- The kind bytes that Table 10.6 names. -/
def kindNamed (kind : Byte) : Bool :=
  let k := kind.toNat
  (1 ≤ k && k ≤ 0x0A) || (0x21 ≤ k && k ≤ 0x2A) || (0x41 ≤ k && k ≤ 0x4A)

end Sys2Proof
end

