-- ==== Sys2Proof/Config.lean ====
section
/-! DEFINITION. What is fixed for every CB-2408 (clock rates and intervals) and the one free value of the
model, an uninterpreted constant no proof can see into. -/

namespace Sys2Proof.Config

/-- The reference clock, 24.576 MHz: ticks per second (R17). -/
def refHz : Nat := 24576000

/-- Reference ticks per millisecond (R64). -/
def ticksPerMs : Nat := 24576

/-- Reference ticks per 0.1 s, the unit of the freeze time (R72, R162). -/
def ticksPerTenth : Nat := 2457600

/-- Pilot cycles per measurement block (R18). -/
def cyclesPerBlock : Nat := 64

/-- The EVAC filter interval, 20 ms (R15). -/
def evacFilterTicks : Nat := 20 * ticksPerMs

/-- One leakage block, 20 ms = 491 520 ticks (R84). -/
def leakageBlockTicks : Nat := 491520

/-- The released part of a pulse period, 750 ms (R151). -/
def pulseReleasedTicks : Nat := 750 * ticksPerMs

/-- The asserted part of a pulse period, 250 ms (R151). -/
def pulseAssertedTicks : Nat := 250 * ticksPerMs

/-- The earliest start of a reply, 0.5 ms after the last byte of its request (R157). -/
def replyDelayTicks : Nat := 12288

/-- FREE VALUE (assumption log 9). The byte at address `a` of the serial memory after the `n`-th image write
that did not end well: R171 says only that the memory "may then hold a partial image". Nothing constrains it; that a
partial image fails at the next load is `Sys2Proof.Machine.spoiltMemory`'s. -/
opaque partialByte : (n : Nat) → (a : Nat) → Byte

end Sys2Proof.Config
end

