-- ==== Sys2Proof/Machine/Types.lean ====
section
/-! DEFINITION. The records and named values the CB-2408 keeps: settings, results, conditions, notices, the state
of each block, and what a reply carries. Each type cites the rule of spec/ that names it. -/

namespace Sys2Proof.Machine

/-! ## Installation tables and the other settings (Chapters 1, 2, 4, 5, 9, 10) -/

/-- The state a line or amplifier is set to (R3, R8). -/
inductive SubjState where
  | off
  | watching
  | held
  deriving DecidableEq, Repr

/-- How the status contacts of an amplifier are read (R8). -/
inductive Polarity where
  | normallyOpen
  | normallyClosed
  deriving DecidableEq, Repr

/-- The four vote rules (Table 7.2). -/
inductive VoteRule where
  | r1oo1
  | r2oo3
  | r4oo8
  | r7oo8
  deriving DecidableEq, Repr

/-- A line table entry (Table 1.2). -/
structure LineEntry where
  state : SubjState
  amp : AmpId
  zone : Zone
  profile : ProfileId
  zref : Option Nat
  deriving DecidableEq, Repr

/-- An amplifier table entry (Table 1.4). -/
structure AmpEntry where
  state : SubjState
  polarity : Polarity
  deriving DecidableEq, Repr

/-- The amplifier-wide settings (Table 1.5). -/
structure AmpWide where
  rule : VoteRule
  overload : Nat
  vmin : Nat
  freqTol : Nat
  deriving DecidableEq, Repr

/-- A threshold profile, its fields in the order of Table 1.6. -/
structure Profile where
  impRule : VoteRule
  earthRule : VoteRule
  high : Nat
  low : Nat
  shortLimit : Nat
  openLimit : Nat
  ishort : Nat
  vmin : Nat
  imin : Nat
  maskLevel : Nat
  maskLimit : Nat
  earthThreshold : Nat
  deriving DecidableEq, Repr

/-- The fifteen condition kinds, in the order of the kind codes of Table 10.3. -/
inductive Kind where
  | opn
  | highz
  | dead
  | short
  | lowz
  | earth
  | degraded
  | nopilot
  | overload
  | freq
  | temp
  | supply
  | ref
  | bridge
  | config
  deriving DecidableEq, Repr

/-- The five classes of condition kinds (Introduction, Table 2). -/
inductive FaultClass where
  | brk
  | short
  | earth
  | amp
  | supervision
  deriving DecidableEq, Repr

/-- What supervision is kept on: a line, an amplifier or the device itself (Introduction, "Subjects"). -/
inductive Subject where
  | line (l : LineId)
  | amp (a : AmpId)
  | dev
  deriving DecidableEq, Repr

/-- An entry of the scan ring or of the confirm queue: a line or an amplifier (R58, R66). -/
inductive RingEntry where
  | line (l : LineId)
  | amp (a : AmpId)
  deriving DecidableEq, Repr

/-- The form of the scan ring (R59). -/
inductive RingForm where
  | byDefault
  | custom
  deriving DecidableEq, Repr

/-- The scan settings (R72): settle blocks S, accumulation a, round period P in ms, freeze time in 0.1 s. -/
structure ScanSettings where
  settle : Nat
  accum : Nat
  period : Nat
  freezeTime : Nat
  deriving DecidableEq, Repr

/-- The six soak times (R79). -/
inductive SoakTime where
  | ms50
  | ms100
  | ms200
  | ms500
  | ms1000
  | ms2000
  deriving DecidableEq, Repr

/-- The earth settings (R79). -/
structure EarthSettings where
  supervision : Bool
  soak : SoakTime
  ne : Nat
  deriving DecidableEq, Repr

/-- The mode of a fault output (Table 9.4). -/
inductive OutMode where
  | off
  | static
  | pulsed
  deriving DecidableEq, Repr

/-- The five settings of an output record (Table 9.4). Bit n of the mask is the class of R161's coding: 0 BREAK,
1 SHORT, 2 EARTH, 3 AMP, 4 SUPERVISION. -/
structure OutSettings where
  mode : OutMode
  mask : BitVec 5
  invert : Bool
  latched : Bool
  short : Bool
  deriving DecidableEq, Repr

/-- Every stored setting (R166), in the order of the image. -/
structure Settings where
  lines : Vector LineEntry 24
  amps : Vector AmpEntry 8
  wide : AmpWide
  profiles : Vector Profile 4
  levels : Vector Level 15
  pilotD : Nat
  form : RingForm
  ring : List RingEntry
  scan : ScanSettings
  earth : EarthSettings
  outA : OutSettings
  outB : OutSettings
  groups : List Byte
  deriving DecidableEq, Repr

/-! ## Conditions (Chapter 7) -/

/-- One vote (R110). -/
inductive Vote where
  | bad
  | clean
  deriving DecidableEq, Repr

/-- The states of a condition (R107). -/
inductive CondState where
  | clear
  | pending
  | active
  deriving DecidableEq, Repr

/-- A condition record (R107). An unvoted condition keeps an empty window and no injection, and is never
PENDING: see `Sys2Proof.Safety`. -/
structure Cond where
  window : List Vote
  state : CondState
  latch : Bool
  since : Round
  injection : Option Nat
  deriving DecidableEq, Repr

/-- The condition kinds of a line, in the order of Table 7.1. -/
inductive LineKind where
  | opn
  | highz
  | dead
  | short
  | lowz
  | earth
  | degraded
  deriving DecidableEq, Repr

/-- The condition kinds of an amplifier, in the order of Table 7.1. -/
inductive AmpKind where
  | nopilot
  | overload
  | freq
  | temp
  | supply
  deriving DecidableEq, Repr

/-- The condition kinds of DEV, in the order of Table 7.1. -/
inductive DevKind where
  | ref
  | bridge
  | config
  deriving DecidableEq, Repr

/-- One of the 211 condition records (R107). -/
inductive CondId where
  | line (l : LineId) (k : LineKind)
  | amp (a : AmpId) (k : AmpKind)
  | dev (k : DevKind)
  deriving DecidableEq, Repr

/-- The seven condition records of a line (Table 7.1). -/
structure LineConds where
  opn : Cond
  highz : Cond
  dead : Cond
  short : Cond
  lowz : Cond
  earth : Cond
  degraded : Cond
  deriving DecidableEq, Repr

/-- The five condition records of an amplifier (Table 7.1). -/
structure AmpConds where
  nopilot : Cond
  overload : Cond
  freq : Cond
  temp : Cond
  supply : Cond
  deriving DecidableEq, Repr

/-- The three condition records of DEV (Table 7.1). -/
structure DevConds where
  ref : Cond
  bridge : Cond
  config : Cond
  deriving DecidableEq, Repr

/-! ## Result records (Chapters 2, 3, 5) -/

/-- The status of a measurement result (R28, Table 2.6). -/
inductive MeasStatus where
  | valid
  | masked
  | unreliable
  | suppressed
  deriving DecidableEq, Repr

/-- The class of a line result (Table 3.2). -/
inductive LineClass where
  | normal
  | high
  | low
  | opn
  | short
  | dead
  deriving DecidableEq, Repr

/-- The class of an amplifier result (R48). -/
inductive AmpClass where
  | normal
  | overload
  | nopilot
  deriving DecidableEq, Repr

/-- The class of the REF result (R32). -/
inductive RefClass where
  | normal
  | out
  deriving DecidableEq, Repr

/-- A status contact after polarity (R98). -/
inductive Contact where
  | asserted
  | released
  deriving DecidableEq, Repr

/-- The measurement result record of a line (Table 2.7). -/
structure LineResult where
  round : Round
  status : MeasStatus
  v : Nat
  meanV : Option Nat
  meanI : Option Nat
  z : Option Nat
  dev : Option Int
  cls : Option LineClass
  clipped : Bool
  injected : Bool
  learning : Bool
  deriving DecidableEq, Repr

/-- The measurement result record of an amplifier (Table 2.7). -/
structure AmpResult where
  round : Round
  status : MeasStatus
  v : Nat
  meanV : Option Nat
  meanI : Option Nat
  cls : Option AmpClass
  clipped : Bool
  injected : Bool
  count : Option Nat
  thermal : Contact
  supply : Contact
  deriving DecidableEq, Repr

/-- The measurement result record of REF (Table 2.7). -/
structure RefResult where
  round : Round
  status : MeasStatus
  v : Nat
  meanV : Option Nat
  meanI : Option Nat
  cls : Option RefClass
  clipped : Bool
  injected : Bool
  deriving DecidableEq, Repr

/-- The status of an earth result (Table 5.3). -/
inductive EarthStatus where
  | valid
  | unreliable
  | invalid
  deriving DecidableEq, Repr

/-- The earth result record of a line (Table 5.3). -/
structure EarthResult where
  round : Round
  status : EarthStatus
  r : Option Nat
  bias : Option Nat
  ne : Option Nat
  saturated : Bool
  injected : Bool
  deriving DecidableEq, Repr

/-- The least and greatest impedance of a line (R54). -/
structure MinMax where
  minZ : Nat
  maxZ : Nat
  deriving DecidableEq, Repr

/-- The records that FREEZE copies (R164): results, minZ and maxZ, conditions and masked run counts. -/
structure Records where
  lineRes : Vector LineResult 24
  ampRes : Vector AmpResult 8
  refRes : RefResult
  earthRes : Vector EarthResult 24
  minMax : Vector MinMax 24
  lineConds : Vector LineConds 24
  maskedRun : Vector Nat 24
  ampConds : Vector AmpConds 8
  devConds : DevConds
  deriving DecidableEq, Repr

/-- A learning record (R131). -/
structure LearnRec where
  target : Nat
  collected : Nat
  sumZ : Nat
  minZ : Option Nat
  maxZ : Option Nat
  attempts : Nat
  deriving DecidableEq, Repr

/-! ## LCONV (Chapter 2) -/

/-- What LCONV can measure (R21). -/
inductive MeasSubject where
  | line (l : LineId)
  | amp (a : AmpId)
  | ref
  deriving DecidableEq, Repr

/-- The pilot period counter (R26). -/
inductive PeriodCounter where
  | idle
  | running (since : Nat)
  | done (count : Nat)
  | gaveUp
  deriving DecidableEq, Repr

/-- The measurement in flight (R21), with the instant its present block began (R18). -/
structure Meas where
  subject : MeasSubject
  settle : Nat
  sample : Nat
  settled : Nat
  sampled : Nat
  sumV : Nat
  sumI : Nat
  v : Nat
  clipped : Bool
  counter : PeriodCounter
  blockStart : Nat
  deriving DecidableEq, Repr

/-! ## SEQ (Chapter 4) -/

/-- The states of SEQ (Table 4.1). -/
inductive SeqState where
  | stopped
  | granted
  | periodWait
  deriving DecidableEq, Repr

/-- The kinds of skip mark (R62). -/
inductive SkipKind where
  | passed
  | skipped
  deriving DecidableEq, Repr

/-- A skip mark: the position of the ring entry and its kind (R62, R76). -/
structure SkipMark where
  position : Nat
  kind : SkipKind
  deriving DecidableEq, Repr

/-- The round statistics (R77); also the running counts of the round in progress. -/
structure RoundCounts where
  slotGrants : Nat
  confirmGrants : Nat
  passed : Nat
  skipped : Nat
  deriving DecidableEq, Repr

/-- The statistics of the last completed round (R77). -/
structure RoundStats where
  round : Round
  durationMs : Nat
  counts : RoundCounts
  deriving DecidableEq, Repr

/-- SEQ's own state (R57); the ring, its form and the scan settings stand with the stored settings. -/
structure Seq where
  state : SeqState
  rebuildPending : Bool
  pointer : Nat
  round : Round
  roundStart : Nat
  periodInUse : Nat
  confirm : List RingEntry
  credit : Nat
  skips : List SkipMark
  counts : RoundCounts
  stats : Option RoundStats
  deriving DecidableEq, Repr

/-! ## EBRG (Chapter 5) -/

/-- An earth test in flight (R78). -/
structure EarthTest where
  line : LineId
  soak : SoakTime
  ne : Nat
  biasOn : Nat
  blocks : Nat
  sumL : Nat
  saturated : Bool
  blockStart : Nat
  deriving DecidableEq, Repr

/-- The states of EBRG with what each holds (Table 5.1, R78). -/
inductive EbrgMode where
  | idle
  | waiting (l : LineId)
  | soaking (t : EarthTest)
  | measuring (t : EarthTest)
  deriving DecidableEq, Repr

/-- EBRG's state (R78); the earth results stand with the records and the earth settings with the settings. -/
structure Ebrg where
  mode : EbrgMode
  walk : LineId
  lastBias : Option Nat
  deriving DecidableEq, Repr

/-! ## NQ (Chapter 9) -/

/-- The kind of a notice: a condition kind, LEARN or RESTART (Table 9.1). -/
inductive NoticeKind where
  | cond (k : Kind)
  | learn
  | restart
  deriving DecidableEq, Repr

/-- The event of a notice (Table 9.1). -/
inductive Event where
  | active
  | clear
  | learnDone
  | learnFailed
  | restart
  deriving DecidableEq, Repr

/-- The cause of a notice (Table 9.1). -/
inductive Cause where
  | attributed
  | fault
  | timeout
  | spread
  | aborted
  | power
  | pin
  | command
  deriving DecidableEq, Repr

/-- A notice, and an entry of the notice queue (Table 9.1). -/
structure Notice where
  subject : Subject
  kind : NoticeKind
  event : Event
  cause : Option Cause
  level : Level
  round : Round
  value : Option Nat
  transient : Bool
  test : Bool
  deriving DecidableEq, Repr

/-- The notice queue, oldest first, and the overflow indicator (R145, R146). -/
structure NoticeQueue where
  entries : List Notice
  overflow : Bool
  deriving DecidableEq, Repr

/-! ## FOUT (Chapter 9) -/

/-- The state of a fault output, with the start count while STARTING (R149). -/
inductive OutState where
  | off
  | starting (count : Nat)
  | running
  deriving DecidableEq, Repr

/-- The pulse phase of a healthy PULSED output and the instant it began (R151). -/
structure Pulse where
  asserted : Bool
  since : Nat
  deriving DecidableEq, Repr

/-- The state fields of one output record (R149). -/
structure OutLive where
  state : OutState
  unhealthy : Bool
  pulse : Option Pulse
  deriving DecidableEq, Repr

/-- FOUT's own state: the state fields of FLT-A and of FLT-B. -/
structure Fout where
  a : OutLive
  b : OutLive
  deriving DecidableEq, Repr

/-- The drive of a fault output's pin (R154). -/
inductive PinDrive where
  | highImpedance
  | asserted
  | released
  deriving DecidableEq, Repr

/-- The electrical level of a fault output's pin (R151, Table 9.5). -/
inductive PinLevel where
  | highImpedance
  | low
  | high
  deriving DecidableEq, Repr

/-! ## BOOT (Chapter 11) -/

/-- The device phase (R166). -/
inductive Phase where
  | starting
  | running
  deriving DecidableEq, Repr

/-- The image status (R166). -/
inductive ImageStatus where
  | none
  | loading
  | loaded
  | failed
  deriving DecidableEq, Repr

/-- The save status (R166). -/
inductive SaveStatus where
  | idle
  | writing
  | done
  | failed
  deriving DecidableEq, Repr

/-- The kinds of restart (R143, R167, R170). -/
inductive RestartCause where
  | power
  | pin
  | command
  deriving DecidableEq, Repr

/-- The supply and the RESET pin (R167, R171): no supply; in a hard reset not yet released, or released, each
with the cause of the last hard reset. -/
inductive Power where
  | unpowered
  | inReset (cause : RestartCause)
  | released (cause : RestartCause)
  deriving DecidableEq, Repr

/-- The baud rates (R155). -/
inductive Baud where
  | b57600
  | b115200
  deriving DecidableEq, Repr

/-- The configuration source (R167). -/
inductive ConfigSource where
  | defaults
  | image
  deriving DecidableEq, Repr

/-- What the straps gave at the last hard reset (R156, R167). -/
structure Straps where
  unit : Nat
  baud : Baud
  source : ConfigSource
  deriving DecidableEq, Repr

/-- What a soft restart keeps as it stood when its RESTART was accepted: the stored settings, and whether CONFIG was
ACTIVE (R1, R75, R79, R129, Table 11.1). -/
structure RestartCopy where
  settings : Settings
  config : Bool
  deriving DecidableEq, Repr

/-- BOOT's fields (R166), the copy of the settings being written while a save is in progress (R171), and, where the
reply to an accepted RESTART has been sent, the copy its soft restart keeps (R170): the soft restart is then due. -/
structure Boot where
  phase : Phase
  image : ImageStatus
  save : SaveStatus
  saveCopy : Option Settings
  restartDue : Option RestartCopy
  deriving DecidableEq, Repr

/-- The EVAC input (R15): the level of the pin, the instant the filter's interval began while it runs, and the
filtered state (true for ASSERTED). -/
structure Evac where
  pinLow : Bool
  since : Option Nat
  filtered : Bool
  deriving DecidableEq, Repr

/-! ## Replies (Chapter 10) -/

/-- The reply status codes (Table 10.2). -/
inductive Status where
  | done
  | clamped
  | refusedArg
  | refusedState
  | refusedBusy
  | unknownKind
  | starting
  deriving DecidableEq, Repr

/-- The view byte (Table 10.2). -/
inductive View where
  | live
  | frozen
  deriving DecidableEq, Repr

/-- The items of a STATUS reply (R162). -/
structure StatusReport where
  phase : Phase
  save : SaveStatus
  changeCounter : Nat
  entries : Nat
  overflow : Bool
  droppedA : Nat
  droppedB : Nat
  frozen : Bool
  timeLeft : Option Nat
  freezeExpired : Bool
  zones : BitVec 16
  evac : Bool
  ref : CondState
  bridge : CondState
  config : CondState
  deriving DecidableEq, Repr

/-- The items of a READ-LINE reply (R163). -/
structure LineReport where
  entry : LineEntry
  emergency : Bool
  result : LineResult
  earth : EarthResult
  minMax : MinMax
  conds : LineConds
  maskedRun : Nat
  learning : Option LearnRec
  deriving DecidableEq, Repr

/-- The items of a READ-AMP reply (R105). -/
structure AmpReport where
  entry : AmpEntry
  result : AmpResult
  conds : AmpConds
  firstCount : Bool
  emergency : Bool
  fed : List (LineId × Bool)
  deriving DecidableEq, Repr

/-- LCONV's state (Table 2.3). -/
inductive LconvState where
  | idle
  | settling
  | sampling
  deriving DecidableEq, Repr

/-- What READ-DEVICE tells of a measurement in flight (R37). -/
structure MeasReport where
  subject : MeasSubject
  settle : Nat
  sample : Nat
  blocksEnded : Nat
  v : Nat
  deriving DecidableEq, Repr

/-- EBRG's state by name (Table 5.1). -/
inductive EbrgState where
  | idle
  | waiting
  | soaking
  | measuring
  deriving DecidableEq, Repr

/-- What READ-DEVICE tells of an earth test in flight (R92). -/
structure TestReport where
  soakMs : Nat
  ne : Nat
  elapsedMs : Nat
  blocks : Nat
  deriving DecidableEq, Repr

/-- The items of a READ-DEVICE reply (R37, R92, R163). The pilot frequency is 24 576 000 / D Hz, given as the
exact quotient's two parts. -/
structure DeviceReport where
  lconv : LconvState
  meas : Option MeasReport
  pilotD : Nat
  pilotHz : Nat × Nat
  refRes : RefResult
  earth : EarthSettings
  ebrg : EbrgState
  chosen : Option LineId
  test : Option TestReport
  walk : LineId
  lastBias : Option Nat
  conds : DevConds
  wide : AmpWide
  levels : Vector Level 15
  groups : List Byte
  deriving DecidableEq, Repr

/-- An entry of a READ-SUMMARY reply (Table 10.5). -/
structure SummaryEntry where
  subject : Subject
  state : Option SubjState
  active : BitVec 16
  latched : BitVec 16
  deriving DecidableEq, Repr

/-- The items of a READ-SCAN reply (R76). -/
structure ScanReport where
  form : RingForm
  ring : List RingEntry
  rebuildPending : Bool
  pointer : Nat
  skips : List SkipMark
  state : SeqState
  round : Round
  elapsedMs : Nat
  periodInUse : Nat
  scan : ScanSettings
  sampleBlocks : Nat
  confirm : List (RingEntry × Bool)
  credit : Nat
  stats : Option RoundStats
  deriving DecidableEq, Repr

/-- One output in a READ-OUTPUTS reply (R154). -/
structure OutputReport where
  settings : OutSettings
  state : OutState
  unhealthy : Bool
  drive : PinDrive
  offenders : List (Subject × List Kind)
  deriving DecidableEq, Repr

/-- The kind-specific content of a reply (Table 10.6), as the list of items its rule gives. A setting request's
content ends with the change counter after the request (R159). -/
inductive Content where
  | empty
  | identity (vendor part revision unit : Nat) (source : ConfigSource) (image : ImageStatus)
  | status (r : StatusReport)
  | pollEntry (left : Nat) (n : Notice)
  | pollEmpty (left : Nat)
  | line (r : LineReport)
  | amp (r : AmpReport)
  | device (r : DeviceReport)
  | summary (es : List SummaryEntry)
  | profile (p : Profile)
  | scan (r : ScanReport)
  | outputs (a b : OutputReport)
  | lineEntry (e : LineEntry) (counter : Nat)
  | ampEntry (e : AmpEntry) (counter : Nat)
  | ampWide (w : AmpWide) (counter : Nat)
  | profileSet (p : Profile) (counter : Nat)
  | levels (t : Vector Level 15) (counter : Nat)
  | scanSet (scan : ScanSettings) (form : RingForm) (entries : Nat) (counter : Nat)
  | pilot (d : Nat) (counter : Nat)
  | earth (e : EarthSettings) (state : EbrgState) (chosen : Option LineId) (counter : Nat)
  | output (settings : OutSettings) (live : OutLive) (counter : Nat)
  | groups (gs : List Byte) (counter : Nat)
  | learn (l : LineId) (target : Nat) (zref : Option Nat)
  | abortLearn (l : LineId) (zref : Option Nat)
  | injection (subject : Subject) (carrying : Option (CondId × Nat))
  | latches (remaining : List (Subject × List Kind))
  | emergency (zones : BitVec 16) (evac : Bool)
  | freezeTime (tenths : Nat)
  | saveStatus (s : SaveStatus)
  deriving DecidableEq, Repr

/-- A reply: its two header bytes and its content (Table 10.2). -/
structure Reply where
  status : Status
  view : View
  content : Content
  deriving DecidableEq, Repr

/-! ## LINK (Chapter 10) -/

/-- The one frame a port holds (R157): its kind, the reply formed when it was taken, the instant it was taken,
whether its reply is being sent (the port's driver is enabled exactly then, R155), and, for an accepted RESTART, what
the soft restart that begins when that reply has been sent keeps (R170). -/
structure HeldFrame where
  kind : Byte
  reply : Reply
  takenAt : Nat
  sending : Bool
  restarts : Option RestartCopy
  deriving DecidableEq, Repr

/-- A port (R155, R157): its receiver (in a frame, or hunting), its held frame and its dropped-frame count. -/
structure PortState where
  inFrame : Bool
  held : Option HeldFrame
  dropped : Nat
  deriving DecidableEq, Repr

/-- The frozen view in force and the instant its timer runs out (R164). -/
structure Frozen where
  view : Records
  deadline : Nat
  deriving DecidableEq, Repr

/-- LINK's state (R155, R159, R164). -/
structure Link where
  portA : PortState
  portB : PortState
  changeCounter : Nat
  frozen : Option Frozen
  freezeExpired : Bool
  deriving DecidableEq, Repr

end Sys2Proof.Machine
end

