-- ==== Sys2Proof/Machine/State.lean ====
section
/-! DEFINITION. The state of the CB-2408, the reasons a command could stop, the clear and default values the spec
gives, and the state in a hard reset. -/

namespace Sys2Proof.Machine

/-- The ways a command could end in a fault. The spec describes no event that stops the part: a refused request
gets a reply, a bad frame is counted, a failed load or save is a status. So there is none (safe: nothing stops). -/
inductive Fault where
  deriving DecidableEq, Repr

/-- The ways a command could be refused by the model. -/
inductive Refusal where
  /-- Raised by exec for a command that has no meaning yet, under its row's mnemonic (safe: the run stops).
  Every row has its meaning, so no arm raises it. -/
  | notModelled (mnemonic : String)
  deriving DecidableEq, Repr

/-- The whole state. Plain data. -/
structure State where
  /-- The model's clock: reference ticks (24.576 MHz) since State.reset. Assumption log 2. -/
  clock : Nat
  /-- The supply and the RESET pin (R167, R171). -/
  power : Power
  /-- BOOT (R166). -/
  boot : Boot
  /-- What the straps gave (R167). -/
  straps : Straps
  /-- The stored settings in force (R166). -/
  cfg : Settings
  /-- The emergency zone set, bit z for zone z (R14). -/
  zones : BitVec 16
  /-- The EVAC input (R15). -/
  evac : Evac
  /-- Whether PGEN drives the pilot (R17). -/
  pilotOn : Bool
  /-- LCONV: the measurement in flight, none in IDLE (R21). -/
  lconv : Option Meas
  /-- SEQ (R57). -/
  seq : Seq
  /-- EBRG (R78). -/
  ebrg : Ebrg
  /-- The live records (R29, R54, R86, R107). -/
  recs : Records
  /-- The first-count mark of each amplifier (R97). -/
  firstCount : Vector Bool 8
  /-- The learning record of each line (R131). -/
  learn : Vector (Option LearnRec) 24
  /-- NQ (R145, R146). -/
  nq : NoticeQueue
  /-- FOUT's state fields (R149). -/
  fout : Fout
  /-- LINK (Chapter 10). -/
  link : Link
  /-- The 2 KB serial memory on the card, which holds the stored image (R166): address and byte pairs, addresses
  rising, a byte that is not listed reading as erased. -/
  memory : List Host.Cell
  /-- The model's own counter: how many free memory contents have been drawn. Assumption log 9. -/
  freeCount : Nat
  /-- The model's own queue of commands that are waiting, first in, first out. -/
  pending : List Instr
  deriving DecidableEq, Repr

/-! ## Default settings (Chapters 1, 2, 4, 5, 9, 10) -/

/-- Line n is fed by amplifier n div 3 and lies in zone n div 2 (Table 1.2). -/
def LineEntry.default (l : LineId) : LineEntry where
  state := .watching
  amp := ⟨l.val / 3, by omega⟩
  zone := ⟨l.val / 2, by omega⟩
  profile := 0
  zref := none

/-- Table 1.4. -/
def AmpEntry.default : AmpEntry where
  state := .watching
  polarity := .normallyOpen

/-- Table 1.5. -/
def AmpWide.default : AmpWide where
  rule := .r2oo3
  overload := 3000
  vmin := 100
  freqTol := 96

/-- Table 1.6. -/
def Profile.default : Profile where
  impRule := .r2oo3
  earthRule := .r4oo8
  high := 250
  low := 200
  shortLimit := 20
  openLimit := 20000
  ishort := 1000
  vmin := 100
  imin := 5
  maskLevel := 600
  maskLimit := 30
  earthThreshold := 200

/-- Table 1.8, in the order of the kind codes of Table 10.3. -/
def defaultLevels : Vector Level 15 := #v[6, 4, 5, 6, 4, 3, 2, 6, 6, 4, 4, 5, 2, 2, 2]

/-- R72. -/
def ScanSettings.default : ScanSettings where
  settle := 2
  accum := 1
  period := 1000
  freezeTime := 50

/-- R79. -/
def EarthSettings.default : EarthSettings where
  supervision := true
  soak := .ms200
  ne := 8

/-- Table 9.4, FLT-A. -/
def OutSettings.defaultA : OutSettings where
  mode := .pulsed
  mask := 0b11111#5
  invert := false
  latched := false
  short := false

/-- Table 9.4, FLT-B. -/
def OutSettings.defaultB : OutSettings where
  mode := .static
  mask := 0b10100#5
  invert := false
  latched := false
  short := false

/-- The lines in ascending order. -/
def allLines : List LineId := List.finRange 24

/-- The amplifiers in ascending order. -/
def allAmps : List AmpId := List.finRange 8

/-- The default ring over a line table: each amplifier, then the lines whose amp field names it, ascending
(R59). -/
def defaultRing (lines : Vector LineEntry 24) : List RingEntry :=
  allAmps.flatMap fun a => .amp a :: (allLines.filter fun l => lines[l].amp = a).map .line

/-- The default line table. -/
def defaultLines : Vector LineEntry 24 := Vector.ofFn LineEntry.default

/-- Every stored setting at its default (R1, R17, R59, R79, R149, R160). -/
def Settings.default : Settings where
  lines := defaultLines
  amps := Vector.ofFn fun _ => AmpEntry.default
  wide := AmpWide.default
  profiles := Vector.ofFn fun _ => Profile.default
  levels := defaultLevels
  pilotD := 1200
  form := .byDefault
  ring := defaultRing defaultLines
  scan := ScanSettings.default
  earth := EarthSettings.default
  outA := OutSettings.defaultA
  outB := OutSettings.defaultB
  groups := []

/-! ## Clear values (R29, R55, R86, R108) -/

/-- The clear values of a condition record (R108). -/
def Cond.cleared : Cond where
  window := []
  state := .clear
  latch := false
  since := 0
  injection := none

/-- The clear values of a line's measurement result record (R29). -/
def LineResult.cleared : LineResult where
  round := 0
  status := .masked
  v := 0
  meanV := none
  meanI := none
  z := none
  dev := none
  cls := none
  clipped := false
  injected := false
  learning := false

/-- The clear values of an amplifier's measurement result record (R29). -/
def AmpResult.cleared : AmpResult where
  round := 0
  status := .masked
  v := 0
  meanV := none
  meanI := none
  cls := none
  clipped := false
  injected := false
  count := none
  thermal := .released
  supply := .released

/-- The clear values of REF's measurement result record (R29). -/
def RefResult.cleared : RefResult where
  round := 0
  status := .masked
  v := 0
  meanV := none
  meanI := none
  cls := none
  clipped := false
  injected := false

/-- The clear values of an earth result record (R86). -/
def EarthResult.cleared : EarthResult where
  round := 0
  status := .invalid
  r := none
  bias := none
  ne := none
  saturated := false
  injected := false

/-- The clear values of minZ and maxZ (R55). -/
def MinMax.cleared : MinMax where
  minZ := 65535
  maxZ := 0

/-- The cleared condition records of a line. -/
def LineConds.cleared : LineConds where
  opn := .cleared
  highz := .cleared
  dead := .cleared
  short := .cleared
  lowz := .cleared
  earth := .cleared
  degraded := .cleared

/-- The cleared condition records of an amplifier. -/
def AmpConds.cleared : AmpConds where
  nopilot := .cleared
  overload := .cleared
  freq := .cleared
  temp := .cleared
  supply := .cleared

/-- The cleared condition records of DEV. -/
def DevConds.cleared : DevConds where
  ref := .cleared
  bridge := .cleared
  config := .cleared

/-- Every record at its clear values (R169). -/
def Records.cleared : Records where
  lineRes := Vector.ofFn fun _ => LineResult.cleared
  ampRes := Vector.ofFn fun _ => AmpResult.cleared
  refRes := RefResult.cleared
  earthRes := Vector.ofFn fun _ => EarthResult.cleared
  minMax := Vector.ofFn fun _ => MinMax.cleared
  lineConds := Vector.ofFn fun _ => LineConds.cleared
  maskedRun := Vector.ofFn fun _ => 0
  ampConds := Vector.ofFn fun _ => AmpConds.cleared
  devConds := DevConds.cleared

/-- No counts yet. -/
def RoundCounts.zero : RoundCounts where
  slotGrants := 0
  confirmGrants := 0
  passed := 0
  skipped := 0

/-- SEQ in STOPPED with everything that R75 clears cleared. -/
def Seq.cleared : Seq where
  state := .stopped
  rebuildPending := false
  pointer := 0
  round := 0
  roundStart := 0
  periodInUse := 0
  confirm := []
  credit := 2
  skips := []
  counts := .zero
  stats := none

/-- EBRG in IDLE with everything that R90 clears cleared. -/
def Ebrg.cleared : Ebrg where
  mode := .idle
  walk := 0
  lastBias := none

/-- An output whose pin is high-impedance and which finds nothing wrong. -/
def OutLive.atRest : OutLive where
  state := .off
  unhealthy := false
  pulse := none

/-- A port at rest: hunting, holding nothing, nothing dropped. -/
def PortState.atRest : PortState where
  inFrame := false
  held := none
  dropped := 0

/-- LINK after a restart (R159, R162, R164). -/
def Link.cleared : Link where
  portA := .atRest
  portB := .atRest
  changeCounter := 0
  frozen := none
  freezeExpired := false

/-- The CB-2408 in a hard reset with cause POWER, before the release of reset (R167: "From the start of the
reset, the device is in the following condition"). Values the spec states only for the release of reset or for the
Clear step stand here already; the log entries 3 and 4 name them. -/
def State.reset : State where
  clock := 0
  power := .inReset .power
  boot := { phase := .starting, image := .none, save := .idle, saveCopy := none, restartDue := none }
  straps := { unit := 62, baud := .b57600, source := .defaults }
  cfg := Settings.default
  zones := 0
  evac := { pinLow := false, since := none, filtered := false }
  pilotOn := false
  lconv := none
  seq := Seq.cleared
  ebrg := Ebrg.cleared
  recs := Records.cleared
  firstCount := Vector.ofFn fun _ => true
  learn := Vector.ofFn fun _ => none
  nq := { entries := [], overflow := false }
  fout := { a := .atRest, b := .atRest }
  link := Link.cleared
  memory := []
  freeCount := 0
  pending := []

end Sys2Proof.Machine
end

