-- ==== Sys2Proof/Machine/Ops.lean ====
section
/-! DEFINITION. The named operations every family is built on: reading and writing one condition record, one table
entry or one record; what is in emergency, counted, held or in flight; and the model's clock. -/

namespace Sys2Proof.Machine

/-! ## Named values -/

/-- The soak times in ms (R79). -/
def SoakTime.ms : SoakTime → Nat
  | .ms50 => 50
  | .ms100 => 100
  | .ms200 => 200
  | .ms500 => 500
  | .ms1000 => 1000
  | .ms2000 => 2000

/-- k of a vote rule: the BAD votes needed (Table 7.2). -/
def VoteRule.k : VoteRule → Nat
  | .r1oo1 => 1
  | .r2oo3 => 2
  | .r4oo8 => 4
  | .r7oo8 => 7

/-- n of a vote rule: the newest votes considered (Table 7.2). -/
def VoteRule.n : VoteRule → Nat
  | .r1oo1 => 1
  | .r2oo3 => 3
  | .r4oo8 => 8
  | .r7oo8 => 8

/-- The kind codes of Table 10.3. -/
def Kind.code : Kind → Nat
  | .opn => 0
  | .highz => 1
  | .dead => 2
  | .short => 3
  | .lowz => 4
  | .earth => 5
  | .degraded => 6
  | .nopilot => 7
  | .overload => 8
  | .freq => 9
  | .temp => 10
  | .supply => 11
  | .ref => 12
  | .bridge => 13
  | .config => 14

/-- The kind codes are below fifteen, so they index the notice level table. -/
def Kind.index (k : Kind) : Fin 15 := ⟨k.code, by cases k <;> decide⟩

/-- The condition kind of a kind code, if it is one of the fifteen (Table 10.3). -/
def Kind.ofCode : Nat → Option Kind
  | 0 => some .opn
  | 1 => some .highz
  | 2 => some .dead
  | 3 => some .short
  | 4 => some .lowz
  | 5 => some .earth
  | 6 => some .degraded
  | 7 => some .nopilot
  | 8 => some .overload
  | 9 => some .freq
  | 10 => some .temp
  | 11 => some .supply
  | 12 => some .ref
  | 13 => some .bridge
  | 14 => some .config
  | _ => none

/-- The class of each condition kind (Introduction, Table 2). -/
def Kind.cls : Kind → FaultClass
  | .opn | .highz | .dead => .brk
  | .short | .lowz => .short
  | .earth => .earth
  | .degraded | .ref | .bridge | .config => .supervision
  | .nopilot | .overload | .freq | .temp | .supply => .amp

/-- The bit of a class in a class mask (Table 10.8). -/
def FaultClass.bit : FaultClass → Nat
  | .brk => 0
  | .short => 1
  | .earth => 2
  | .amp => 3
  | .supervision => 4

/-- The kind of a line's condition. -/
def LineKind.kind : LineKind → Kind
  | .opn => .opn
  | .highz => .highz
  | .dead => .dead
  | .short => .short
  | .lowz => .lowz
  | .earth => .earth
  | .degraded => .degraded

/-- The kind of an amplifier's condition. -/
def AmpKind.kind : AmpKind → Kind
  | .nopilot => .nopilot
  | .overload => .overload
  | .freq => .freq
  | .temp => .temp
  | .supply => .supply

/-- The kind of a condition of DEV. -/
def DevKind.kind : DevKind → Kind
  | .ref => .ref
  | .bridge => .bridge
  | .config => .config

/-- The condition kinds of a line in the order of Table 7.1. -/
def lineKinds : List LineKind := [.opn, .highz, .dead, .short, .lowz, .earth, .degraded]

/-- The five impedance conditions in the order of R114. -/
def impedanceKinds : List LineKind := [.opn, .highz, .dead, .short, .lowz]

/-- The condition kinds of an amplifier in the order of Table 7.1, which is also that of R95. -/
def ampKinds : List AmpKind := [.nopilot, .overload, .freq, .temp, .supply]

/-- The condition kinds of DEV in the order of Table 7.1. -/
def devKinds : List DevKind := [.ref, .bridge, .config]

/-- The kind of a condition record. -/
def CondId.kind : CondId → Kind
  | .line _ k => k.kind
  | .amp _ k => k.kind
  | .dev k => k.kind

/-- The subject of a condition record. -/
def CondId.subject : CondId → Subject
  | .line l _ => .line l
  | .amp a _ => .amp a
  | .dev _ => .dev

/-- The condition records of a subject in the order of Table 7.1. -/
def condsOf : Subject → List CondId
  | .line l => lineKinds.map (.line l)
  | .amp a => ampKinds.map (.amp a)
  | .dev => devKinds.map .dev

/-- DEGRADED and CONFIG are the unvoted conditions (Table 7.1). -/
def CondId.voted : CondId → Bool
  | .line _ .degraded | .dev .config => false
  | _ => true

/-- The subjects in the order of READ-SUMMARY: lines, then amplifiers, then DEV (Table 10.5). -/
def allSubjects : List Subject := allLines.map .line ++ allAmps.map .amp ++ [.dev]

/-- A ring entry as a subject. -/
def RingEntry.subject : RingEntry → Subject
  | .line l => .line l
  | .amp a => .amp a

/-- A ring entry as a subject of LCONV. -/
def RingEntry.meas : RingEntry → MeasSubject
  | .line l => .line l
  | .amp a => .amp a

/-! ## Condition records -/

/-- Reading one condition of a line. -/
def LineConds.get (c : LineConds) : LineKind → Cond
  | .opn => c.opn
  | .highz => c.highz
  | .dead => c.dead
  | .short => c.short
  | .lowz => c.lowz
  | .earth => c.earth
  | .degraded => c.degraded

/-- Writing one condition of a line. -/
def LineConds.set (c : LineConds) (k : LineKind) (x : Cond) : LineConds :=
  match k with
  | .opn => { c with opn := x }
  | .highz => { c with highz := x }
  | .dead => { c with dead := x }
  | .short => { c with short := x }
  | .lowz => { c with lowz := x }
  | .earth => { c with earth := x }
  | .degraded => { c with degraded := x }

/-- Reading one condition of an amplifier. -/
def AmpConds.get (c : AmpConds) : AmpKind → Cond
  | .nopilot => c.nopilot
  | .overload => c.overload
  | .freq => c.freq
  | .temp => c.temp
  | .supply => c.supply

/-- Writing one condition of an amplifier. -/
def AmpConds.set (c : AmpConds) (k : AmpKind) (x : Cond) : AmpConds :=
  match k with
  | .nopilot => { c with nopilot := x }
  | .overload => { c with overload := x }
  | .freq => { c with freq := x }
  | .temp => { c with temp := x }
  | .supply => { c with supply := x }

/-- Reading one condition of DEV. -/
def DevConds.get (c : DevConds) : DevKind → Cond
  | .ref => c.ref
  | .bridge => c.bridge
  | .config => c.config

/-- Writing one condition of DEV. -/
def DevConds.set (c : DevConds) (k : DevKind) (x : Cond) : DevConds :=
  match k with
  | .ref => { c with ref := x }
  | .bridge => { c with bridge := x }
  | .config => { c with config := x }

/-- Reading one of the 211 condition records. -/
def Records.cond (r : Records) : CondId → Cond
  | .line l k => r.lineConds[l].get k
  | .amp a k => r.ampConds[a].get k
  | .dev k => r.devConds.get k

/-- Writing one of the 211 condition records. -/
def Records.setCond (r : Records) (id : CondId) (x : Cond) : Records :=
  match id with
  | .line l k => { r with lineConds := r.lineConds.set l (r.lineConds[l].set k x) }
  | .amp a k => { r with ampConds := r.ampConds.set a (r.ampConds[a].set k x) }
  | .dev k => { r with devConds := r.devConds.set k x }

/-- A condition record of the live records. -/
def State.cond (s : State) (id : CondId) : Cond := s.recs.cond id

/-- Writing a condition record of the live records. -/
def State.setCond (s : State) (id : CondId) (x : Cond) : State := { s with recs := s.recs.setCond id x }

/-! ## Settings -/

/-- The line table entry of a line. -/
def State.line (s : State) (l : LineId) : LineEntry := s.cfg.lines[l]

/-- The amplifier table entry of a channel. -/
def State.amp (s : State) (a : AmpId) : AmpEntry := s.cfg.amps[a]

/-- The profile a line's profile field names. -/
def State.lineProfile (s : State) (l : LineId) : Profile := s.cfg.profiles[(s.line l).profile]

/-- The state a subject is set to; none for DEV (R107). -/
def State.subjState (s : State) : Subject → Option SubjState
  | .line l => some (s.line l).state
  | .amp a => some (s.amp a).state
  | .dev => none

/-- Whether a subject is OFF. DEV cannot be (R107). -/
def State.isOff (s : State) (x : Subject) : Bool := s.subjState x = some .off

/-- The vote rule that applies to a condition (R109). An unvoted condition has none; 2oo3 stands there and is not
used. -/
def State.ruleFor (s : State) : CondId → VoteRule
  | .line l .earth => (s.lineProfile l).earthRule
  | .line l _ => (s.lineProfile l).impRule
  | .amp _ _ => s.cfg.wide.rule
  | .dev _ => .r2oo3

/-! ## Emergency, reporting and counting (R16, R113, R150) -/

/-- A zone is in emergency while the filtered EVAC state is ASSERTED or while it is in the set (R16). -/
def State.zoneInEmergency (s : State) (z : Zone) : Bool := s.evac.filtered || s.zones.getLsbD z

/-- A line is in emergency while its zone is (R16). -/
def State.lineInEmergency (s : State) (l : LineId) : Bool := s.zoneInEmergency (s.line l).zone

/-- An amplifier is in emergency while a line whose amp field names it is (R16). -/
def State.ampInEmergency (s : State) (a : AmpId) : Bool :=
  allLines.any fun l => decide ((s.line l).amp = a) && s.lineInEmergency l

/-- The emergency membership of a subject; DEV is never in emergency (R16). -/
def State.inEmergency (s : State) : Subject → Bool
  | .line l => s.lineInEmergency l
  | .amp a => s.ampInEmergency a
  | .dev => false

/-- The counted subjects of R150, which are also the reporting subjects of R113: DEV, what is WATCHING, and what
is HELD while in emergency. -/
def State.counted (s : State) (x : Subject) : Bool :=
  match s.subjState x with
  | none => true
  | some .watching => true
  | some .held => s.inEmergency x
  | some .off => false

/-! ## Held lines and the measurement in flight -/

/-- The line-measurement-in-flight indicator (R21): the line LCONV is measuring. -/
def State.lineInFlight (s : State) : Option LineId :=
  match s.lconv with
  | some m =>
    match m.subject with
    | .line l => some l
    | .amp _ => none
    | .ref => none
  | none => none

/-- The line held under earth test: the one whose test EBRG is SOAKING or MEASURING (R78). -/
def EbrgMode.heldLine : EbrgMode → Option LineId
  | .soaking t => some t.line
  | .measuring t => some t.line
  | .idle => none
  | .waiting _ => none

/-- EBRG's chosen line (R78). -/
def EbrgMode.chosen : EbrgMode → Option LineId
  | .idle => none
  | .waiting l => some l
  | .soaking t => some t.line
  | .measuring t => some t.line

/-- Whether a line is held under earth test (R78). -/
def State.lineHeld (s : State) (l : LineId) : Bool := s.ebrg.mode.heldLine = some l

/-- Whether the REF condition of DEV is ACTIVE (R28, R116). -/
def State.refActive (s : State) : Bool := (s.cond (.dev .ref)).state = .active

/-- Whether an amplifier's NOPILOT is ACTIVE (R100). -/
def State.noPilot (s : State) (a : AmpId) : Bool := (s.cond (.amp a .nopilot)).state = .active

/-! ## The model's clock (assumption log 2) -/

/-- One tick of the reference clock passes. -/
def State.tick (s : State) : State := { s with clock := s.clock + 1 }

/-- A timed event happens no earlier than its instant `t`: the clock is moved up to it. -/
def State.waitUntil (s : State) (t : Nat) : State := { s with clock := max s.clock t }

/-! ## Ports -/

/-- A port's state. -/
def State.port (s : State) : Port → PortState
  | .portA => s.link.portA
  | .portB => s.link.portB

/-- Writing a port's state. -/
def State.setPort (s : State) (p : Port) (x : PortState) : State :=
  match p with
  | .portA => { s with link := { s.link with portA := x } }
  | .portB => { s with link := { s.link with portB := x } }

end Sys2Proof.Machine
end

