-- ==== Sys2Proof/Machine/Arith.lean ====
section
/-! DEFINITION. The impedance, period and leakage arithmetic of Chapter 3, on plain integers, and the classes and
judgements drawn from it. -/

namespace Sys2Proof.Machine

/-- Round half up of x / y for x ≥ 0 and y > 0 (R41). -/
def roundHalfUp (x y : Nat) : Nat := (x + y / 2) / y

/-- Clamping to a range: below takes the lower limit, above the upper (R41). -/
def clampNat (lo hi x : Nat) : Nat := max lo (min hi x)

/-- The sample blocks N of an accumulation setting a (R22). -/
def sampleBlocks (a : Nat) : Nat := 4 * (a + 1)

/-- The mean of a sum over v unmasked blocks (R43). -/
def meanCode (sum v : Nat) : Nat := sum / v

/-- The line impedance in 0.1 Ω (R44, R45): 65535 below the current floor, else the ratio of the sums rounded half
up and clamped to 65534. -/
def lineZ (sumV sumI meanI imin : Nat) : Nat :=
  if meanI < imin then 65535 else min 65534 (roundHalfUp (sumV * 1000) sumI)

/-- The deviation from zref in parts per thousand (R46). -/
def deviation (z zref : Nat) : Int :=
  max (-1000) (min 9999 (Int.tdiv (((z : Int) - (zref : Int)) * 1000) (zref : Int)))

/-- The deviation of a computed impedance, before the class is known: absent without zref and at 65535 (R46). -/
def deviation? (z : Nat) (zref : Option Nat) : Option Int :=
  match zref with
  | some r => if z ≤ 65534 then some (deviation z r) else none
  | none => none

/-- The class of a line result that is not MASKED (R47, Table 3.2). -/
def classifyLine (p : Profile) (meanV meanI z : Nat) (dev : Option Int) : LineClass :=
  if meanV < p.vmin ∧ p.ishort ≤ meanI then .short
  else if meanV < p.vmin then .dead
  else if z = 65535 ∨ p.openLimit ≤ z then .opn
  else if z < p.shortLimit then .short
  else if dev.any (fun d => decide ((p.high : Int) ≤ d)) then .high
  else if dev.any (fun d => decide (d ≤ -(p.low : Int))) then .low
  else .normal

/-- The class of an amplifier result that is not MASKED (R48). -/
def classifyAmp (w : AmpWide) (meanV meanI : Nat) : AmpClass :=
  if w.overload ≤ meanI then .overload
  else if meanV < w.vmin then .nopilot
  else .normal

/-- A REF mean lies within 2048 ± 20 codes (R32). -/
def refInRange (mean : Nat) : Bool := decide (2028 ≤ mean) && decide (mean ≤ 2068)

/-- The class of the REF record (R32). -/
def classifyRef (meanV meanI : Nat) : RefClass := if refInRange meanV && refInRange meanI then .normal else .out

/-- The signed period deviation C − 16·D (R49). -/
def periodDeviation (count d : Nat) : Int := (count : Int) - 16 * (d : Int)

/-- The FREQ judgement of a period count (R49). -/
def judgePeriod (count d tol : Nat) : Vote := if tol < (periodDeviation count d).natAbs then .bad else .clean

/-- The leakage resistance in kΩ (R50). -/
def leakageR (sumL ne : Nat) : Nat :=
  if sumL = 0 then 65535 else clampNat 1 65534 (roundHalfUp (240000 * ne) sumL)

/-- The EARTH judgement of a result with R present (R51). -/
def judgeEarth (r threshold : Nat) (saturated : Bool) : Vote :=
  if r < threshold ∨ saturated = true then .bad else .clean

/-- The candidate reference of a completed learning record (R52). -/
def candidateZref (sumZ m : Nat) : Nat := roundHalfUp sumZ m

/-- The spread test of R53. -/
def spreadPasses (minZ maxZ sumZ m : Nat) : Bool := decide ((maxZ - minZ) * 1000 ≤ sumZ / m * 50)

/-- minZ and maxZ after a VALID result with the impedance z (R54). -/
def MinMax.enter (x : MinMax) (z : Nat) : MinMax where
  minZ := if z < x.minZ then z else x.minZ
  maxZ := if x.maxZ < z then z else x.maxZ

end Sys2Proof.Machine
end

