-- ==== Sys2Proof/Machine/Notices.lean ====
section
/-! DEFINITION. NQ: the level of a notice, its place in the queue, shedding, and what POLL chooses (Chapter 9). -/

namespace Sys2Proof.Machine

/-- The capacity of the notice queue (R145). -/
def noticeCapacity : Nat := 32

/-- An entry and a notice are about the same subject and kind (R145). -/
def Notice.samePair (a b : Notice) : Bool := decide (a.subject = b.subject) && decide (a.kind = b.kind)

/-- An entry updated in place by a later notice of its pair (R145). -/
def Notice.update (entry n : Notice) : Notice :=
  { entry with
    event := n.event
    cause := n.cause
    level := n.level
    round := n.round
    value := n.value
    transient := entry.transient || (decide (entry.event = .active) && decide (n.event = .clear))
    test := entry.test || n.test }

/-- The first entry of a notice's pair updated in place; none when there is no such entry (R145). -/
def updateInPlace (n : Notice) : List Notice → Option (List Notice)
  | [] => none
  | e :: es => if e.samePair n then some (e.update n :: es) else (updateInPlace n es).map (e :: ·)

/-- The lowest level present, 7 for an empty list (R146). -/
def lowestLevel (es : List Notice) : Level := es.foldl (fun m e => min m e.level) 7

/-- A new pair reaching a full queue: the oldest entry of the lowest level gives way to a higher level, or the
notice is discarded (R146). -/
def shed (n : Notice) (es : List Notice) : List Notice :=
  if lowestLevel es < n.level then es.eraseP (fun e => decide (e.level = lowestLevel es)) ++ [n] else es

/-- Placing a notice in the queue (R145, R146). -/
def NoticeQueue.place (q : NoticeQueue) (n : Notice) : NoticeQueue :=
  match updateInPlace n q.entries with
  | some es => { q with entries := es }
  | none =>
    if q.entries.length < noticeCapacity then { q with entries := q.entries ++ [n] }
    else { entries := shed n q.entries, overflow := true }

/-- Removing every entry of a subject, of whatever kind (R148). -/
def NoticeQueue.dropSubject (q : NoticeQueue) (x : Subject) : NoticeQueue :=
  { q with entries := q.entries.filter fun e => decide (e.subject ≠ x) }

/-- The highest level among entries (R147). -/
def highestLevel (es : List Notice) : Level := es.foldl (fun m e => max m e.level) 0

/-- POLL's choice: the oldest entry of the highest level at or above the minimum (R147). -/
def NoticeQueue.best (q : NoticeQueue) (minimum : Level) : Option Notice :=
  let able := q.entries.filter fun e => decide (minimum ≤ e.level)
  able.find? fun e => decide (e.level = highestLevel able)

/-- The queue without POLL's choice; the entries behind it keep their order (R147). -/
def NoticeQueue.take (q : NoticeQueue) (chosen : Notice) : NoticeQueue :=
  { q with entries := q.entries.eraseP fun e => decide (e = chosen) }

/-- The level of a notice by its kind (R144). -/
def State.kindLevel (s : State) : NoticeKind → Level
  | .cond k => s.cfg.levels[k.index]
  | .learn => 1
  | .restart => 7

/-- The level of a notice when it is handed to NQ: raised to 7 for a subject in emergency (R144). -/
def State.noticeLevel (s : State) (x : Subject) (k : NoticeKind) : Level :=
  if s.inEmergency x then 7 else s.kindLevel k

/-- A notice formed at this instant (R143, R144). -/
def State.notice (s : State) (x : Subject) (k : NoticeKind) (ev : Event) (cause : Option Cause) (value : Option Nat)
    (test : Bool) : Notice where
  subject := x
  kind := k
  event := ev
  cause := cause
  level := s.noticeLevel x k
  round := s.seq.round
  value := value
  transient := false
  test := test

/-- Handing a notice to NQ (R143, R145). -/
def State.notify (s : State) (x : Subject) (k : NoticeKind) (ev : Event) (cause : Option Cause) (value : Option Nat)
    (test : Bool) : State :=
  { s with nq := s.nq.place (s.notice x k ev cause value test) }

/-- Handing NQ a condition notice if the subject is a reporting subject at this instant (R113). -/
def State.notifyCond (s : State) (id : CondId) (ev : Event) (cause : Option Cause) (value : Option Nat)
    (test : Bool) : State :=
  if s.counted id.subject then s.notify id.subject (.cond id.kind) ev cause value test else s

/-- Announcing each ACTIVE condition of a subject, in the order of Table 7.1 (R123, R124). -/
def State.announceActive (s : State) (x : Subject) : State :=
  (condsOf x).foldl
    (fun s id =>
      if (s.cond id).state = .active then
        s.notify x (.cond id.kind) .active none none (s.cond id).injection.isSome
      else s)
    s

/-- What a change of emergency membership announces: the ACTIVE conditions of every HELD subject that has just
entered emergency, lines ascending and then amplifiers ascending (R16, R124). `before` is the state that held the
old membership. -/
def State.announceEntries (s before : State) : State :=
  (allLines.map Subject.line ++ allAmps.map Subject.amp).foldl
    (fun s x =>
      if s.subjState x = some .held ∧ before.inEmergency x = false ∧ s.inEmergency x = true then s.announceActive x
      else s)
    s

end Sys2Proof.Machine
end

