-- ==== Sys2Proof/Machine/Outputs.lean ====
section
/-! DEFINITION. FOUT: health, pulse phases, the start interval and the pins (Chapter 9). -/

namespace Sys2Proof.Machine

/-- Whether a class mask holds the class of a condition kind (R150). -/
def maskHolds (mask : BitVec 5) (k : Kind) : Bool := mask.getLsbD k.cls.bit

/-- Whether a condition makes an output unhealthy if its subject is counted: ACTIVE, or latched in latched mode,
with its class in the mask (R150). -/
def OutSettings.sees (o : OutSettings) (k : Kind) (c : Cond) : Bool :=
  maskHolds o.mask k && (if o.latched then c.latch else decide (c.state = .active))

/-- The conditions of one subject that make an output unhealthy (R154). -/
def State.offendingKinds (s : State) (o : OutSettings) (x : Subject) : List Kind :=
  ((condsOf x).filter fun id => o.sees id.kind (s.cond id)).map CondId.kind

/-- The counted subjects that make an output unhealthy, each with those conditions (R154). DESIGN CHOICE, assumption log
21: lines, then amplifiers, then DEV, each with its conditions in the order of Table 7.1. -/
def State.offenders (s : State) (o : OutSettings) : List (Subject × List Kind) :=
  ((allSubjects.filter s.counted).map fun x => (x, s.offendingKinds o x)).filter fun y => !y.2.isEmpty

/-- The health of an output (R150): UNHEALTHY is true. -/
def State.unhealthy (s : State) (o : OutSettings) : Bool :=
  allSubjects.any fun x => s.counted x && (condsOf x).any fun id => o.sees id.kind (s.cond id)

/-- The pulse phase with which an output begins in PULSED mode when HEALTHY: a new period, released (R151). -/
def freshPulse (o : OutSettings) (unhealthy : Bool) (now : Nat) : Option Pulse :=
  if o.mode = .pulsed ∧ unhealthy = false then some { asserted := false, since := now } else none

/-- An output told its health (R150, R151): a change acts at once; a PULSED output that becomes HEALTHY while
RUNNING begins a new period. -/
def OutLive.withHealth (l : OutLive) (o : OutSettings) (unhealthy : Bool) (now : Nat) : OutLive :=
  if l.unhealthy = unhealthy then l
  else
    { l with
      unhealthy := unhealthy
      pulse := if l.state = .running then freshPulse o unhealthy now else none }

/-- FOUT evaluates the health of both outputs again (R150). -/
def State.reevalOutputs (s : State) : State :=
  { s with
    fout :=
      { a := s.fout.a.withHealth s.cfg.outA (s.unhealthy s.cfg.outA) s.clock
        b := s.fout.b.withHealth s.cfg.outB (s.unhealthy s.cfg.outB) s.clock } }

/-- The start interval in rounds (R152). -/
def OutSettings.startInterval (o : OutSettings) : Nat := if o.short then 3 else 10

/-- An output enters RUNNING (R152). -/
def OutLive.enterRunning (l : OutLive) (o : OutSettings) (now : Nat) : OutLive :=
  { l with state := .running, pulse := freshPulse o l.unhealthy now }

/-- An output enters STARTING with a count of 0, or OFF when its mode is OFF (R149, R152). -/
def OutLive.enterStarting (l : OutLive) (o : OutSettings) : OutLive :=
  { l with state := if o.mode = .off then .off else .starting 0, pulse := none }

/-- An output in STARTING counts the end of a round (R152). -/
def OutLive.countRound (l : OutLive) (o : OutSettings) (now : Nat) : OutLive :=
  match l.state with
  | .starting n => if o.startInterval ≤ n + 1 then l.enterRunning o now else { l with state := .starting (n + 1) }
  | .off => l
  | .running => l

/-- FOUT is told the end of a round (R63, R152). -/
def State.countRoundOutputs (s : State) : State :=
  { s with
    fout :=
      { a := s.fout.a.countRound s.cfg.outA s.clock
        b := s.fout.b.countRound s.cfg.outB s.clock } }

/-- Both outputs start when the device phase becomes RUNNING (R149). -/
def State.startOutputs (s : State) : State :=
  { s with fout := { a := s.fout.a.enterStarting s.cfg.outA, b := s.fout.b.enterStarting s.cfg.outB } }

/-- Both pins go high-impedance at the start of a restart (R149, R167, R170). -/
def OutLive.stop (l : OutLive) : OutLive := { l with state := .off, pulse := none }

/-- The present drive of an output's pin (R151, R154). -/
def OutLive.drive (l : OutLive) (o : OutSettings) : PinDrive :=
  match l.state with
  | .off => .highImpedance
  | .starting _ => .highImpedance
  | .running =>
    if l.unhealthy then .asserted
    else
      match o.mode with
      | .pulsed => if (l.pulse.map Pulse.asserted) = some true then .asserted else .released
      | .static => .released
      | .off => .released

/-- The electrical level of an output's pin (R151, Table 9.5). -/
def OutLive.level (l : OutLive) (o : OutSettings) : PinLevel :=
  match l.drive o with
  | .highImpedance => .highImpedance
  | .asserted => if o.invert then .high else .low
  | .released => if o.invert then .low else .high

/-- A pulse phase ends and the next begins, without gap (R151). -/
def Pulse.next (p : Pulse) : Pulse where
  asserted := !p.asserted
  since := p.since + (if p.asserted then Config.pulseAssertedTicks else Config.pulseReleasedTicks)

/-- The output record settings of an output. -/
def Settings.out (c : Settings) : OutputId → OutSettings
  | .fltA => c.outA
  | .fltB => c.outB

/-- The state fields of an output. -/
def Fout.get (f : Fout) : OutputId → OutLive
  | .fltA => f.a
  | .fltB => f.b

/-- Writing the state fields of an output. -/
def Fout.set (f : Fout) (o : OutputId) (l : OutLive) : Fout :=
  match o with
  | .fltA => { f with a := l }
  | .fltB => { f with b := l }

/-- Writing the settings of an output. -/
def Settings.setOut (c : Settings) (o : OutputId) (x : OutSettings) : Settings :=
  match o with
  | .fltA => { c with outA := x }
  | .fltB => { c with outB := x }

/-- The reactions of an output to an accepted SET-OUTPUT that turned the settings `old` into `new` (R152, R153);
`l` already carries the health under the new settings. -/
def OutLive.react (l : OutLive) (old new : OutSettings) (now : Nat) : OutLive :=
  if new.mode = .off then { l with state := .off, pulse := none }
  else if old.mode = .off then l.enterStarting new
  else
    match l.state with
    | .off => l
    | .starting n => if old.short ≠ new.short ∧ new.short = true ∧ 3 ≤ n then l.enterRunning new now else l
    | .running => if old.mode = new.mode then l else { l with pulse := freshPulse new l.unhealthy now }

end Sys2Proof.Machine
end

