-- ==== Sys2Proof/Machine/Conditions.lean ====
section
/-! DEFINITION. CEVAL: votes, evaluation and re-evaluation of conditions, attribution, the emptying of HIGHZ and
LOWZ, DEGRADED, latches and OFF (Chapters 6 and 7), and the confirm push (R66). -/

namespace Sys2Proof.Machine

/-! ## Evaluation (R111) -/

/-- The number of BAD votes among the newest n entries of a window, or among all of fewer (R111). -/
def badCount (n : Nat) (window : List Vote) : Nat := (window.take n).countP fun v => decide (v = .bad)

/-- Table 7.3: the new state from the state before and the number of BAD votes. -/
def nextCondState (k : Nat) (before : CondState) (b : Nat) : CondState :=
  if b = 0 then .clear
  else
    match before with
    | .active => .active
    | .clear => if b < k then .pending else .active
    | .pending => if b < k then .pending else .active

/-- The state a condition's window gives it under a rule (R111). -/
def Cond.judged (c : Cond) (r : VoteRule) : CondState := nextCondState r.k c.state (badCount r.n c.window)

/-- The condition with a new state: since takes the round, and an entry into ACTIVE sets the latch (R111 steps 1
and 2). -/
def Cond.move (c : Cond) (new : CondState) (round : Round) : Cond :=
  { c with state := new, since := round, latch := c.latch || decide (new = .active) }

/-- A change of a condition's state with the steps of R111: since, latch, then on an entry into or exit from
ACTIVE the notice and FOUT. The notice's TEST flag is `test` (R113). -/
def State.moveCond (s : State) (id : CondId) (new : CondState) (cause : Option Cause) (value : Option Nat)
    (test : Bool) : State :=
  let c := s.cond id
  if c.state = new then s
  else
    let s1 := s.setCond id (c.move new s.seq.round)
    if new = .active then (s1.notifyCond id .active cause value test).reevalOutputs
    else if c.state = .active then (s1.notifyCond id .clear cause value test).reevalOutputs
    else s1

/-- Emptying a condition's window and setting it CLEAR, keeping latch and injection (R102, R118). -/
def State.emptyCond (s : State) (id : CondId) (cause : Option Cause) : State :=
  let c := s.cond id
  (s.setCond id { c with window := [] }).moveCond id .clear cause none c.injection.isSome

/-- Attribution of one line's DEAD: only a DEAD that is PENDING or ACTIVE is touched (R102). -/
def State.attributeLine (s : State) (l : LineId) : State :=
  if (s.cond (.line l .dead)).state = .clear then s else s.emptyCond (.line l .dead) (some .attributed)

/-- Attribution when an amplifier's NOPILOT enters ACTIVE: every line it feeds that is not OFF, ascending
(R102). -/
def State.attributeFed (s : State) (a : AmpId) : State :=
  allLines.foldl
    (fun s l => if (s.line l).amp = a ∧ (s.line l).state ≠ .off then s.attributeLine l else s)
    s

/-- Setting an amplifier's first-count mark (R97). -/
def State.setFirstCount (s : State) (a : AmpId) (mark : Bool) : State :=
  { s with firstCount := s.firstCount.set a mark }

/-- What follows a change of an amplifier's NOPILOT: attribution on entry into ACTIVE (R102), the first-count mark
on leaving ACTIVE (R97). Other conditions have no such act. -/
def State.afterMove (s : State) (id : CondId) (old new : CondState) : State :=
  match id with
  | .amp a .nopilot =>
    if old ≠ .active ∧ new = .active then s.attributeFed a
    else if old = .active ∧ new ≠ .active then s.setFirstCount a true
    else s
  | .amp _ .overload => s
  | .amp _ .freq => s
  | .amp _ .temp => s
  | .amp _ .supply => s
  | .line _ _ => s
  | .dev _ => s

/-- Evaluating a condition on its window as it stands, with every consequence (R111, R97, R102). -/
def State.evaluate (s : State) (id : CondId) (value : Option Nat) (test : Bool) : State :=
  let c := s.cond id
  let new := c.judged (s.ruleFor id)
  (s.moveCond id new none value test).afterMove id c.state new

/-! ## Votes (R110, R112, R127) -/

/-- The confirm queue's capacity (R66). -/
def confirmCapacity : Nat := 8

/-- A push onto the confirm queue: not twice, not beyond eight (R66). -/
def Seq.push (q : Seq) (e : RingEntry) : Seq :=
  if e ∈ q.confirm then q
  else if q.confirm.length < confirmCapacity then { q with confirm := q.confirm ++ [e] }
  else q

/-- A push of a condition's subject; a push of DEV is not recorded (R66, R112). -/
def State.push (s : State) : Subject → State
  | .line l => { s with seq := s.seq.push (.line l) }
  | .amp a => { s with seq := s.seq.push (.amp a) }
  | .dev => s

/-- The count of an injection after one vote; absent once used up (R127). -/
def injectionAfterVote (injection : Option Nat) : Option Nat :=
  match injection with
  | some n => if 2 ≤ n then some (n - 1) else none
  | none => none

/-- A vote as it is entered: BAD while an injection is pending (R127). -/
def Cond.voteEntered (c : Cond) (judged : Vote) : Vote := if c.injection.isSome then .bad else judged

/-- The record after a vote has entered its window (R110, R127). -/
def Cond.withVote (c : Cond) (judged : Vote) : Cond :=
  { c with
    window := (c.voteEntered judged :: c.window).take 8
    injection := injectionAfterVote c.injection }

/-- One vote on a condition with all its consequences: the window, the evaluation, and the push of a BAD vote into
a CLEAR condition (R110, R111, R112, R127). -/
def State.vote (s : State) (id : CondId) (judged : Vote) (value : Option Nat) : State :=
  let c := s.cond id
  let s1 := (s.setCond id (c.withVote judged)).evaluate id value c.injection.isSome
  if c.voteEntered judged = .bad ∧ c.state = .clear then s1.push id.subject else s1

/-- Whether a vote on a condition would be forced BAD by an injection now (R127). -/
def State.forces (s : State) (id : CondId) : Bool := (s.cond id).injection.isSome

/-! ## Re-evaluation without a vote (R104, R117) -/

/-- Re-evaluating one condition under the rule in force (R117). A DEAD that would leave CLEAR while the feeding
amplifier's NOPILOT is ACTIVE is attributed instead: its window is emptied and nothing else happens (R104). -/
def State.reevaluate (s : State) (id : CondId) : State :=
  let c := s.cond id
  match id with
  | .line l .dead =>
    if s.noPilot (s.line l).amp = true ∧ c.state = .clear ∧ c.judged (s.ruleFor id) ≠ .clear then
      s.setCond id { c with window := [] }
    else s.evaluate id none c.injection.isSome
  | _ => s.evaluate id none c.injection.isSome

/-- Re-evaluating conditions in order, each with its consequences before the next, leaving out what belongs to a
subject that is OFF (R117). -/
def State.reevaluateAll (s : State) (ids : List CondId) : State :=
  ids.foldl (fun s id => if s.isOff id.subject then s else s.reevaluate id) s

/-- The line conditions whose rule differs between two profiles, in the order of Table 7.1 (R6, R12). -/
def changedLineKinds (old new : Profile) : List LineKind :=
  (if old.impRule ≠ new.impRule then impedanceKinds else []) ++ (if old.earthRule ≠ new.earthRule then [.earth] else [])

/-! ## HIGHZ, LOWZ and the reference (R114, R118) -/

/-- Whether HIGHZ and LOWZ of a line take votes: a zref is present and the line is not learning (R118). -/
def State.refVotes (s : State) (l : LineId) : Bool := (s.line l).zref.isSome && s.learn[l].isNone

/-- Emptying HIGHZ and LOWZ of a line (R118). DESIGN CHOICE, assumption log 19: where both were ACTIVE, HIGHZ's CLEAR notice
is handed over first, in the order of Table 7.1. -/
def State.emptyRef (s : State) (l : LineId) : State :=
  (s.emptyCond (.line l .highz) none).emptyCond (.line l .lowz) none

/-! ## DEGRADED (R119, R120) -/

/-- The masked run count after one completed line result (R119). -/
def maskedRunAfter (count : Nat) (status : MeasStatus) : Nat := if status = .masked then min 255 (count + 1) else 0

/-- The masked run count and DEGRADED moved by one completed line result (R119, R120). -/
def State.moveDegraded (s : State) (l : LineId) (status : MeasStatus) : State :=
  let count := maskedRunAfter s.recs.maskedRun[l] status
  let s1 := { s with recs := { s.recs with maskedRun := s.recs.maskedRun.set l count } }
  let state := (s.cond (.line l .degraded)).state
  if state = .clear ∧ status = .masked ∧ (s.lineProfile l).maskLimit ≤ count then
    s1.moveCond (.line l .degraded) .active none none false
  else if state = .active ∧ status ≠ .masked then s1.moveCond (.line l .degraded) .clear none none false
  else s1

/-! ## Latches and OFF (R122, R125) -/

/-- The latch of a condition that is not ACTIVE cleared (R122). -/
def State.clearLatch (s : State) (id : CondId) : State :=
  let c := s.cond id
  if c.state = .active then s else s.setCond id { c with latch := false }

/-- One record of a subject set OFF (R125): since is written where the state changed. -/
def Cond.turnedOff (c : Cond) (round : Round) : Cond where
  window := []
  state := .clear
  latch := false
  since := if c.state = .clear then c.since else round
  injection := none

/-- The records of a subject set OFF, without notice (R125). -/
def State.turnOffConds (s : State) (x : Subject) : State :=
  (condsOf x).foldl (fun s id => s.setCond id ((s.cond id).turnedOff s.seq.round)) s

/-- A line's masked run count set to 0 (R125). -/
def State.zeroMaskedRun (s : State) (l : LineId) : State :=
  { s with recs := { s.recs with maskedRun := s.recs.maskedRun.set l 0 } }

/-- The learning record of a line written or removed (R131). -/
def State.setLearn (s : State) (l : LineId) (r : Option LearnRec) : State := { s with learn := s.learn.set l r }

/-- The entries of a subject leave the notice queue (R148). -/
def State.dropNotices (s : State) (x : Subject) : State := { s with nq := s.nq.dropSubject x }

/-- A subject's confirm entry is removed; the entries behind keep their order (R67). -/
def State.dropConfirm (s : State) (e : RingEntry) : State :=
  { s with seq := { s.seq with confirm := s.seq.confirm.filter fun x => decide (x ≠ e) } }

end Sys2Proof.Machine
end

