-- ==== Sys2Proof/Machine/Bridge.lean ====
section
/-! DEFINITION. EBRG: the walk, the start of a test, the bias check, leakage blocks and completion (Chapter 5). -/

namespace Sys2Proof.Machine

/-- Writing EBRG's mode. -/
def State.setMode (s : State) (m : EbrgMode) : State := { s with ebrg := { s.ebrg with mode := m } }

/-- The start of a test on the chosen line: WAITING while LCONV measures it, else the bias is applied with the
soak time and n_e in force latched (R81). -/
def State.startTest (s : State) (l : LineId) : State :=
  if s.lineInFlight = some l then s.setMode (.waiting l)
  else
    s.setMode
      (.soaking
        { line := l
          soak := s.cfg.earth.soak
          ne := s.cfg.earth.ne
          biasOn := s.clock
          blocks := 0
          sumL := 0
          saturated := false
          blockStart := s.clock })

/-- The first line that is not OFF from the walk position on, wrapping (R80). -/
def State.nextOnWalk (s : State) : Option LineId :=
  (allLines.map fun i => s.ebrg.walk + i).find? fun l => !s.isOff (.line l)

/-- EBRG makes a choice: the walk position moves past the chosen line and its test starts; with no line to choose,
or with supervision OFF, or outside RUNNING, EBRG is IDLE (R78, R80). -/
def State.choose (s : State) : State :=
  if s.cfg.earth.supervision = true ∧ s.boot.phase = .running then
    match s.nextOnWalk with
    | some l => { s with ebrg := { s.ebrg with walk := l + 1 } }.startTest l
    | none => s.setMode .idle
  else s.setMode .idle

/-- EBRG at a report of LCONV that it is free: in WAITING it makes its start again on the same line (R82). -/
def State.earthRetry (s : State) : State :=
  match s.ebrg.mode with
  | .waiting l => s.startTest l
  | .idle => s
  | .soaking _ => s
  | .measuring _ => s

/-- Writing a line's earth result record (R86). -/
def State.setEarthRes (s : State) (l : LineId) (r : EarthResult) : State :=
  { s with recs := { s.recs with earthRes := s.recs.earthRes.set l r } }

/-- The least bias reading that is good, 22.0 V (R83). -/
def goodBias : Nat := 220

/-- The record of a failed bias check (R83). -/
def failedSoakRecord (round : Round) (bias : Nat) : EarthResult where
  round := round
  status := .invalid
  r := none
  bias := some bias
  ne := none
  saturated := false
  injected := false

/-- The end of the soak of a test: the reading stored and judged, the BRIDGE vote, then MEASURING, or the bias off,
an INVALID record and the next choice (R83). -/
def State.endSoak (s : State) (t : EarthTest) (bias : Nat) : State :=
  let s1 : State := { s with ebrg := { s.ebrg with lastBias := some bias } }
  if goodBias ≤ bias then
    (s1.vote (.dev .bridge) .clean none).setMode
      (.measuring { t with blockStart := t.biasOn + t.soak.ms * Config.ticksPerMs })
  else
    (((s1.setMode .idle).setEarthRes t.line (failedSoakRecord s.seq.round bias)).vote (.dev .bridge) .bad none).choose

/-- The test after one more leakage block (R84). -/
def EarthTest.addBlock (t : EarthTest) (code : Nat) : EarthTest :=
  { t with
    blocks := t.blocks + 1
    sumL := t.sumL + code
    saturated := t.saturated || decide (code = 4095)
    blockStart := t.blockStart + Config.leakageBlockTicks }

/-- The earth result record of a completed test (R85 steps 1 to 3). -/
def State.earthRecord (s : State) (t : EarthTest) : EarthResult where
  round := s.seq.round
  status := if s.refActive then .unreliable else .valid
  r := some (leakageR t.sumL t.ne)
  bias := s.ebrg.lastBias
  ne := some t.ne
  saturated := t.saturated
  injected := false

/-- The EARTH vote of a completed test: from a VALID record only, against the threshold in force, marking the
record INJECTED when the vote is forced (R85 step 4, R86, R115). -/
def State.voteEarth (s : State) (l : LineId) (res : EarthResult) : State :=
  match res.status, res.r with
  | .valid, some r =>
    let judged := judgeEarth r (s.lineProfile l).earthThreshold res.saturated
    let s1 := if s.forces (.line l .earth) then s.setEarthRes l { res with injected := true } else s
    s1.vote (.line l .earth) judged (some r)
  | _, _ => s

/-- The completion of an earth test (R85). -/
def State.completeTest (s : State) (t : EarthTest) : State :=
  let res := s.earthRecord t
  (((s.setEarthRes t.line res).voteEarth t.line res).setMode .idle).choose

/-- The abandonment of a test or a wait by turning supervision off: the walk position goes back to the line (R88). -/
def Ebrg.turnOff (e : Ebrg) : Ebrg :=
  match e.mode.chosen with
  | some l => { e with mode := .idle, walk := l }
  | none => e

end Sys2Proof.Machine
end

