-- ==== Sys2Proof/Machine/Learning.lean ====
section
/-! DEFINITION. LEARN: what a line result does to a learning record, and how a learning ends (Chapter 8). -/

namespace Sys2Proof.Machine

/-- A new learning record (R131). -/
def LearnRec.start (target : Nat) : LearnRec where
  target := target
  collected := 0
  sumZ := 0
  minZ := none
  maxZ := none
  attempts := 0

/-- The least impedance after one more (R134). -/
def lessOf (old : Option Nat) (z : Nat) : Nat :=
  match old with
  | some m => min m z
  | none => z

/-- The greatest impedance after one more (R134). -/
def greaterOf (old : Option Nat) (z : Nat) : Nat :=
  match old with
  | some m => max m z
  | none => z

/-- One more attempt (R133). -/
def LearnRec.attempt (r : LearnRec) : LearnRec := { r with attempts := r.attempts + 1 }

/-- A collected impedance (R134). -/
def LearnRec.collect (r : LearnRec) (z : Nat) : LearnRec :=
  { r with
    collected := r.collected + 1
    sumZ := r.sumZ + z
    minZ := some (lessOf r.minZ z)
    maxZ := some (greaterOf r.maxZ z) }

/-- The range of the collected impedances passes the spread test (R53). -/
def LearnRec.spreadOk (r : LearnRec) : Bool := spreadPasses (r.minZ.getD 0) (r.maxZ.getD 0) r.sumZ r.target

/-- Writing a line's zref. -/
def State.setZref (s : State) (l : LineId) (zref : Option Nat) : State :=
  { s with cfg := { s.cfg with lines := s.cfg.lines.set l { s.cfg.lines[l] with zref := zref } } }

/-- A learning that ends without a new zref: the record removed, a LEARN-FAILED notice (R135, R136, R137, R138,
R139). -/
def State.failLearning (s : State) (l : LineId) (cause : Cause) : State :=
  (s.setLearn l none).notify (.line l) .learn .learnFailed (some cause) none false

/-- The learning completes: zref, the emptying, the record removed and LEARN-DONE, or LEARN-FAILED with cause
SPREAD (R137). -/
def State.completeLearning (s : State) (l : LineId) (r : LearnRec) : State :=
  if r.spreadOk then
    let z := candidateZref r.sumZ r.target
    (((s.setZref l (some z)).emptyRef l).setLearn l none).notify (.line l) .learn .learnDone none (some z) false
  else s.failLearning l .spread

/-- A result that did not complete the learning: the attempt limit, or the record waits (R134, R136). -/
def State.learnWaits (s : State) (l : LineId) (r : LearnRec) : State :=
  if 3 * r.target ≤ r.attempts then s.failLearning l .timeout else s.setLearn l (some r)

/-- A completed line result handed to LEARN (R133, Table 8.1). -/
def State.handLearn (s : State) (l : LineId) (res : LineResult) : State :=
  match s.learn[l] with
  | none => s
  | some r0 =>
    let r := r0.attempt
    match res.status, res.cls, res.z with
    | .valid, some .opn, _ => s.failLearning l .fault
    | .valid, some .short, _ => s.failLearning l .fault
    | .valid, some .dead, _ => s.failLearning l .fault
    | .valid, some _, some z =>
      let r1 := r.collect z
      if r1.target ≤ r1.collected then s.completeLearning l r1 else s.learnWaits l r1
    | _, _, _ => s.learnWaits l r

end Sys2Proof.Machine
end

