-- ==== Sys2Proof/Machine/Sequencer.lean ====
section
/-! DEFINITION. SEQ: grants, the walk along the scan ring, rounds and the grant decision (Chapter 4). -/

namespace Sys2Proof.Machine

/-- LCONV takes a grant: S and N latched, everything else at zero, the first block beginning now (R18, R22). -/
def State.grant (s : State) (x : MeasSubject) : State :=
  { s with
    lconv := some
      { subject := x
        settle := s.cfg.scan.settle
        sample := sampleBlocks s.cfg.scan.accum
        settled := 0
        sampled := 0
        sumV := 0
        sumI := 0
        v := 0
        clipped := false
        counter := .idle
        blockStart := s.clock } }

/-- The ring at a round start: built anew when the mark is set (R60, R61). -/
def State.ringAtStart (s : State) : List RingEntry :=
  if s.seq.rebuildPending then defaultRing s.cfg.lines else s.cfg.ring

/-- A round starts: the ring, the start time, the period in use, the pointer and skip marks, then the REF grant
with the credit restored (R61). -/
def State.startRound (s : State) : State :=
  let s1 : State :=
    { s with
      cfg := { s.cfg with ring := s.ringAtStart }
      seq :=
        { s.seq with
          state := .granted
          rebuildPending := false
          roundStart := s.clock
          periodInUse := s.cfg.scan.period
          pointer := 0
          skips := []
          credit := 2
          counts := { RoundCounts.zero with slotGrants := 1 } } }
  s1.grant .ref

/-- The time since the round start, in reference ticks (R64). -/
def State.roundElapsed (s : State) : Nat := s.clock - s.seq.roundStart

/-- The round number advances and the statistics of the round just ended are written (R63, R77). -/
def State.closeRound (s : State) : State :=
  { s with
    seq :=
      { s.seq with
        round := s.seq.round + 1
        stats := some
          { round := s.seq.round
            durationMs := s.roundElapsed / Config.ticksPerMs
            counts := s.seq.counts } } }

/-- The round ended no sooner than the period in use asks: the next starts at once (R64). -/
def State.roundIsLate (s : State) : Bool :=
  decide (s.seq.periodInUse = 0) || decide (s.seq.periodInUse * Config.ticksPerMs ≤ s.roundElapsed)

/-- The end of a round (R63, R64). -/
def State.endRound (s : State) : State :=
  let s1 := s.closeRound.countRoundOutputs
  if s.roundIsLate then s1.startRound else { s1 with seq := { s1.seq with state := .periodWait } }

/-- A ring entry passed over or skipped: its mark, its count, the pointer past it (R62). -/
def Seq.skip (q : Seq) (k : SkipKind) : Seq :=
  { q with
    pointer := q.pointer + 1
    skips := q.skips ++ [{ position := q.pointer, kind := k }]
    counts :=
      match k with
      | .passed => { q.counts with passed := q.counts.passed + 1 }
      | .skipped => { q.counts with skipped := q.counts.skipped + 1 } }

/-- An entry names a line that is held under earth test; an amplifier never is (R62). -/
def State.entryHeld (s : State) : RingEntry → Bool
  | .line l => s.lineHeld l
  | .amp _ => false

/-- A slot grant of a ring entry: the pointer past it, the credit restored (R62, R68). -/
def State.grantSlot (s : State) (e : RingEntry) : State :=
  { s with
    seq :=
      { s.seq with
        pointer := s.seq.pointer + 1
        credit := 2
        counts := { s.seq.counts with slotGrants := s.seq.counts.slotGrants + 1 } } }.grant e.meas

/-- SEQ turns to the ring: it passes over and skips entries until it grants one, or the round ends (R62, R63).
The list holds the ring's entries from the pointer on. -/
def State.walkRing : List RingEntry → State → State
  | [], s => s.endRound
  | e :: es, s =>
    if s.isOff e.subject then State.walkRing es { s with seq := s.seq.skip .passed }
    else if s.entryHeld e then State.walkRing es { s with seq := s.seq.skip .skipped }
    else s.grantSlot e

/-- A confirm entry is eligible: its subject is not OFF and it is no line held under earth test (R70). -/
def State.eligible (s : State) (e : RingEntry) : Bool := !s.isOff e.subject && !s.entryHeld e

/-- The confirm entry a grant decision takes: the oldest eligible one, while there is credit (R69, R70). -/
def State.confirmChoice (s : State) : Option RingEntry :=
  if s.seq.credit = 0 then none else s.seq.confirm.find? s.eligible

/-- A confirm grant: the entry removed, the credit lowered, the pointer left (R67, R68, R69). -/
def State.grantConfirm (s : State) (e : RingEntry) : State :=
  { s with
    seq :=
      { s.seq with
        confirm := s.seq.confirm.erase e
        credit := s.seq.credit - 1
        counts := { s.seq.counts with confirmGrants := s.seq.counts.confirmGrants + 1 } } }.grant e.meas

/-- One grant decision; none is taken outside GRANTED (R69). -/
def State.grantDecision (s : State) : State :=
  if s.seq.state = .granted then
    match s.confirmChoice with
    | some e => s.grantConfirm e
    | none => State.walkRing (s.cfg.ring.drop s.seq.pointer) s
  else s

end Sys2Proof.Machine
end

