-- ==== Sys2Proof/Machine/Converter.lean ====
section
/-! DEFINITION. LCONV: settle and sample blocks, the period counter, completion with its votes, and the free report
(Chapters 2, 3, 6 and 7). -/

namespace Sys2Proof.Machine

/-- LCONV reports free: EBRG's start and SEQ's grant decision follow, in the order the world takes them (R82). -/
def State.freeReport (s : State) (order : RaceOrder) : State :=
  match order with
  | .earthFirst => s.earthRetry.grantDecision
  | .seqFirst => s.grantDecision.earthRetry

/-- LCONV returns to IDLE; its fields hold nothing and the indicator names no line (R21, R27 step 6, R33). -/
def State.releaseLconv (s : State) : State := { s with lconv := none }

/-! ## Blocks -/

/-- The length of a block in reference ticks (R18). -/
def State.blockTicks (s : State) : Nat := Config.cyclesPerBlock * s.cfg.pilotD

/-- The instant the present block of a measurement ends (R18). -/
def State.blockDue (s : State) (m : Meas) : Nat := m.blockStart + s.blockTicks

/-- The period counter at the entry into SAMPLING: it runs for an amplifier only (R26). -/
def startCounter (x : MeasSubject) (now : Nat) : PeriodCounter :=
  match x with
  | .amp _ => .running now
  | .line _ => .idle
  | .ref => .idle

/-- A settle block ends: its codes are discarded; after the S-th, LCONV is SAMPLING (R23). -/
def State.settleBlock (s : State) (m : Meas) : Meas :=
  { m with
    settled := m.settled + 1
    blockStart := s.blockDue m
    counter := if m.settle ≤ m.settled + 1 then startCounter m.subject (s.blockDue m) else m.counter }

/-- The mask level for a block of a subject that ends now; none for REF, whose blocks are not masked (R24). -/
def State.maskLevelFor (s : State) : MeasSubject → Option Nat
  | .line l => some (s.lineProfile l).maskLevel
  | .amp _ => some s.cfg.profiles[(0 : ProfileId)].maskLevel
  | .ref => none

/-- A sample block is masked when its programme code is above the mask level (R24). -/
def State.isMasked (s : State) (x : MeasSubject) (prog : Nat) : Bool :=
  (s.maskLevelFor x).any fun level => decide (level < prog)

/-- A counter that has not finished by the end of a sample block has given up (R26: its limit is half a block). -/
def PeriodCounter.afterBlock : PeriodCounter → PeriodCounter
  | .running _ => .gaveUp
  | .idle => .idle
  | .done c => .done c
  | .gaveUp => .gaveUp

/-- A sample block ends: its codes are added unless it is masked (R24, R25). -/
def State.sampleBlock (s : State) (m : Meas) (v i prog : Nat) : Meas :=
  let next : Meas := { m with sampled := m.sampled + 1, blockStart := s.blockDue m, counter := m.counter.afterBlock }
  if s.isMasked m.subject prog then next
  else
    { next with
      sumV := m.sumV + v
      sumI := m.sumI + i
      v := m.v + 1
      clipped := m.clipped || decide (v = 4095) || decide (i = 4095) }

/-- The count a counter leaves (R26). -/
def PeriodCounter.count? : PeriodCounter → Option Nat
  | .done c => some c
  | .idle => none
  | .running _ => none
  | .gaveUp => none

/-! ## Status of a result (R28) -/

/-- A measurement with too few unmasked blocks (R28 test 1). -/
def Meas.tooFew (m : Meas) : Bool := decide (m.v < m.sample / 2)

/-- The status of a line's result (R28). -/
def State.lineStatus (s : State) (l : LineId) (m : Meas) : MeasStatus :=
  if m.tooFew then .masked
  else if s.refActive then .unreliable
  else if (s.amp (s.line l).amp).state ≠ .off ∧ s.noPilot (s.line l).amp = true then .suppressed
  else .valid

/-- The status of an amplifier's result; never SUPPRESSED (R28, R93). -/
def State.ampStatus (s : State) (m : Meas) : MeasStatus :=
  if m.tooFew then .masked else if s.refActive then .unreliable else .valid

/-! ## Line completion -/

/-- The new record of a line (R27 step 1, R42 to R47, R30). A DEAD record carries no Z and no dev. -/
def State.lineRecord (s : State) (l : LineId) (m : Meas) : LineResult :=
  let p := s.lineProfile l
  let status := s.lineStatus l m
  let meanV := meanCode m.sumV m.v
  let meanI := meanCode m.sumI m.v
  let z := lineZ m.sumV m.sumI meanI p.imin
  let dev := deviation? z (s.line l).zref
  let cls := classifyLine p meanV meanI z dev
  let computed := decide (status ≠ .masked)
  let carriesZ := computed && decide (cls ≠ .dead)
  { round := s.seq.round
    status := status
    v := m.v
    meanV := if computed then some meanV else none
    meanI := if computed then some meanI else none
    z := if carriesZ then some z else none
    dev := if carriesZ then dev else none
    cls := if computed then some cls else none
    clipped := m.clipped
    injected := false
    learning := s.learn[l].isSome }

/-- Writing a line's measurement result record. -/
def State.setLineRes (s : State) (l : LineId) (r : LineResult) : State :=
  { s with recs := { s.recs with lineRes := s.recs.lineRes.set l r } }

/-- minZ and maxZ moved by a new record: a VALID one that carries Z of at most 65534 (R54). -/
def State.enterMinMax (s : State) (l : LineId) (r : LineResult) : State :=
  match r.status, r.z with
  | .valid, some z =>
    if z ≤ 65534 then { s with recs := { s.recs with minMax := s.recs.minMax.set l (s.recs.minMax[l].enter z) } } else s
  | _, _ => s

/-- The condition a line class matches (R114). -/
def LineClass.matched : LineClass → Option LineKind
  | .opn => some .opn
  | .high => some .highz
  | .dead => some .dead
  | .short => some .short
  | .low => some .lowz
  | .normal => none

/-- The vote a VALID line result gives a condition: BAD for the one its class matches (R114). -/
def lineVote (cls : LineClass) (k : LineKind) : Vote := if cls.matched = some k then .bad else .clean

/-- The impedance conditions that take votes from a VALID result: HIGHZ and LOWZ only with a zref and no learning
(R114, R118). -/
def State.votingKinds (s : State) (l : LineId) : List LineKind :=
  impedanceKinds.filter fun k => !(decide (k = .highz) || decide (k = .lowz)) || s.refVotes l

/-- The votes of a line result, in the order of R114; none but from a VALID one. -/
def State.voteLine (s : State) (l : LineId) (r : LineResult) : State :=
  match r.status, r.cls with
  | .valid, some cls => (s.votingKinds l).foldl (fun s k => s.vote (.line l k) (lineVote cls k) r.z) s
  | _, _ => s

/-- Whether a pending injection forces a vote that CEVAL takes from a line result (R30). -/
def State.lineForced (s : State) (l : LineId) (r : LineResult) : Bool :=
  decide (r.status = .valid) && (s.votingKinds l).any fun k => s.forces (.line l k)

/-- The completion of a line measurement, up to the free report (R27 steps 1 to 6). -/
def State.completeLine (s : State) (l : LineId) (m : Meas) : State :=
  let r0 := s.lineRecord l m
  let r := { r0 with injected := s.lineForced l r0 }
  let s1 := (s.setLineRes l r).enterMinMax l r
  let s2 := (s1.voteLine l r).moveDegraded l r.status
  (s2.handLearn l r).releaseLconv

/-! ## Amplifier completion -/

/-- A contact's reading after polarity (R8). -/
def readContact (p : Polarity) (closed : Bool) : Contact :=
  match p, closed with
  | .normallyOpen, true => .asserted
  | .normallyOpen, false => .released
  | .normallyClosed, true => .released
  | .normallyClosed, false => .asserted

/-- The new record of an amplifier (R27 steps 1 and 2, R48, R93, R98). -/
def State.ampRecord (s : State) (a : AmpId) (m : Meas) (thermalClosed supplyClosed : Bool) : AmpResult :=
  let status := s.ampStatus m
  let meanV := meanCode m.sumV m.v
  let meanI := meanCode m.sumI m.v
  let computed := decide (status ≠ .masked)
  { round := s.seq.round
    status := status
    v := m.v
    meanV := if computed then some meanV else none
    meanI := if computed then some meanI else none
    cls := if computed then some (classifyAmp s.cfg.wide meanV meanI) else none
    clipped := m.clipped
    injected := false
    count := m.counter.count?
    thermal := readContact (s.amp a).polarity thermalClosed
    supply := readContact (s.amp a).polarity supplyClosed }

/-- Writing an amplifier's measurement result record. -/
def State.setAmpRes (s : State) (a : AmpId) (r : AmpResult) : State :=
  { s with recs := { s.recs with ampRes := s.recs.ampRes.set a r } }

/-- The INJECTED flag of an amplifier's record set when a vote taken from it is forced (R30). -/
def State.markAmp (s : State) (a : AmpId) (forced : Bool) : State :=
  if forced then s.setAmpRes a { s.recs.ampRes[a] with injected := true } else s

/-- A vote taken from an amplifier's result, with its INJECTED flag (R30, R127). -/
def State.voteAmp (s : State) (a : AmpId) (k : AmpKind) (judged : Vote) (value : Option Nat) : State :=
  (s.markAmp a (s.forces (.amp a k))).vote (.amp a k) judged value

/-- The NOPILOT and OVERLOAD votes of a VALID amplifier result (R95). -/
def State.votePilot (s : State) (a : AmpId) (r : AmpResult) : State :=
  match r.status, r.cls with
  | .valid, some cls =>
    (s.voteAmp a .nopilot (if cls = .nopilot then .bad else .clean) none).voteAmp a .overload
      (if cls = .overload then .bad else .clean) none
  | _, _ => s

/-- The count a FREQ vote can be taken from: a VALID result of class NORMAL or OVERLOAD with C present (R96). -/
def AmpResult.freqCount (r : AmpResult) : Option Nat :=
  if r.status = .valid ∧ (r.cls = some .normal ∨ r.cls = some .overload) then r.count else none

/-- The FREQ vote, or the clearing of the first-count mark in its place (R96). -/
def State.voteFreq (s : State) (a : AmpId) (r : AmpResult) : State :=
  match r.freqCount with
  | none => s
  | some c =>
    if s.noPilot a then s
    else if s.firstCount[a] then s.setFirstCount a false
    else s.voteAmp a .freq (judgePeriod c s.cfg.pilotD s.cfg.wide.freqTol) (some c)

/-- The vote of a contact: BAD for ASSERTED (R98). -/
def contactVote (c : Contact) : Vote :=
  match c with
  | .asserted => .bad
  | .released => .clean

/-- The TEMP and SUPPLY votes, taken from every completed amplifier result (R94, R98). -/
def State.voteContacts (s : State) (a : AmpId) (r : AmpResult) : State :=
  (s.voteAmp a .temp (contactVote r.thermal) none).voteAmp a .supply (contactVote r.supply) none

/-- The completion of an amplifier measurement, up to the free report (R27, R94, R95). -/
def State.completeAmp (s : State) (a : AmpId) (m : Meas) (thermalClosed supplyClosed : Bool) : State :=
  let r := s.ampRecord a m thermalClosed supplyClosed
  ((((s.setAmpRes a r).votePilot a r).voteFreq a r).voteContacts a r).releaseLconv

/-! ## REF completion -/

/-- The new record of REF, always VALID (R28, R31, R32). -/
def State.refRecord (s : State) (m : Meas) : RefResult :=
  let meanV := meanCode m.sumV m.v
  let meanI := meanCode m.sumI m.v
  { round := s.seq.round
    status := .valid
    v := m.v
    meanV := some meanV
    meanI := some meanI
    cls := some (classifyRef meanV meanI)
    clipped := m.clipped
    injected := s.forces (.dev .ref) }

/-- The completion of a REF measurement, up to the free report (R32, R115). -/
def State.completeRef (s : State) (m : Meas) : State :=
  let r := s.refRecord m
  let s1 : State := { s with recs := { s.recs with refRes := r } }
  (s1.vote (.dev .ref) (if r.cls = some .out then .bad else .clean) none).releaseLconv

/-- The completion of the measurement in flight (R27). -/
def State.complete (s : State) (m : Meas) (thermalClosed supplyClosed : Bool) : State :=
  match m.subject with
  | .line l => s.completeLine l m
  | .amp a => s.completeAmp a m thermalClosed supplyClosed
  | .ref => s.completeRef m

/-! ## Abandonment (R20, R33) -/

/-- The measurement in flight is of this subject. -/
def State.measuring (s : State) (x : MeasSubject) : Bool := (s.lconv.map Meas.subject) = some x

end Sys2Proof.Machine
end

