-- ==== Sys2Proof/Machine/Frame.lean ====
section
/-! DEFINITION. The bytes on the wire: CRC-16, the layout of a frame, the command a frame spells, and the bytes of
those replies whose layout the spec gives (Chapter 10). -/

namespace Sys2Proof.Machine

/-! ## CRC-16 (R155) -/

/-- One bit of the CRC register: generator 0x1021, not reflected (R155). -/
def crcShift (c : BitVec 16) : BitVec 16 := if c.msb then (c <<< 1) ^^^ 0x1021 else c <<< 1

/-- One byte entered into the CRC register, most significant bit first (R155). -/
def crcByte (c : BitVec 16) (b : Byte) : BitVec 16 :=
  let x := c ^^^ (b.setWidth 16 <<< 8)
  crcShift (crcShift (crcShift (crcShift (crcShift (crcShift (crcShift (crcShift x)))))))

/-- The CRC-16 of a byte string; the register starts at 0xFFFF and the result is not inverted (R155). -/
def crc16 (bs : List Byte) : BitVec 16 := bs.foldl crcByte 0xFFFF

/-! ## Byte order: multi-byte fields high byte first (Table 10.1, R166) -/

/-- A number as one byte. -/
def byte1 (n : Nat) : List Byte := [BitVec.ofNat 8 n]

/-- A number as two bytes, high byte first. -/
def byte2 (n : Nat) : List Byte := [BitVec.ofNat 8 (n / 256), BitVec.ofNat 8 n]

/-- A number as four bytes, high byte first. -/
def byte4 (n : Nat) : List Byte :=
  [BitVec.ofNat 8 (n / 16777216), BitVec.ofNat 8 (n / 65536), BitVec.ofNat 8 (n / 256), BitVec.ofNat 8 n]

/-- The number a byte string spells, high byte first. -/
def bigEndian (bs : List Byte) : Nat := bs.foldl (fun n b => n * 256 + b.toNat) 0

/-! ## Frames (Table 10.1) -/

/-- The lead byte. -/
def leadByte : Byte := 0xC3

/-- The bytes of a frame: lead, address, length, kind, payload, CRC-16 (Table 10.1). -/
def frameBytes (addr kind : Byte) (payload : List Byte) : List Byte :=
  let body := addr :: BitVec.ofNat 8 payload.length :: kind :: payload
  leadByte :: body ++ byte2 (crc16 body).toNat

/-- A frame that passes the checks (R155). -/
structure Frame where
  addr : Byte
  kind : Byte
  payload : List Byte
  deriving DecidableEq, Repr

/-- What a receiver makes of the bytes from a lead byte on: a frame, a drop with its reason, or neither yet, for
want of bytes (R155). -/
inductive Heard where
  | frame (f : Frame)
  | dropped (why : DropReason)
  | incomplete
  deriving DecidableEq, Repr

/-- The checks of R155 on the bytes from a lead byte on. -/
def hearFrame : List Byte → Heard
  | lead :: addr :: len :: rest =>
    if lead ≠ leadByte then .incomplete
    else if 200 < len.toNat then .dropped .lengthByte
    else
      match rest with
      | [] => .incomplete
      | kind :: more =>
        if more.length < len.toNat + 2 then .incomplete
        else
          let payload := more.take len.toNat
          let crc := (more.drop len.toNat).take 2
          if bigEndian crc = (crc16 (addr :: len :: kind :: payload)).toNat then
            .frame { addr := addr, kind := kind, payload := payload }
          else .dropped .crc
  | _ => .incomplete

/-- The command a frame that passes its checks spells, by its kind byte (Table 10.6). The world's choice for the
requests that can free LCONV comes with it. -/
def Frame.command (p : Port) (order : RaceOrder) (f : Frame) : Instr :=
  match f.kind.toNat with
  | 0x01 => .identify p f.addr f.payload
  | 0x02 => .status p f.addr f.payload
  | 0x03 => .poll p f.addr f.payload
  | 0x04 => .readLine p f.addr f.payload
  | 0x05 => .readAmp p f.addr f.payload
  | 0x06 => .readDevice p f.addr f.payload
  | 0x07 => .readSummary p f.addr f.payload
  | 0x08 => .readProfile p f.addr f.payload
  | 0x09 => .readScan p f.addr f.payload
  | 0x0A => .readOutputs p f.addr f.payload
  | 0x21 => .setLine p f.addr f.payload order
  | 0x22 => .setAmp p f.addr f.payload order
  | 0x23 => .setAmpWide p f.addr f.payload
  | 0x24 => .setProfile p f.addr f.payload
  | 0x25 => .setLevels p f.addr f.payload
  | 0x26 => .setScan p f.addr f.payload
  | 0x27 => .setPilot p f.addr f.payload order
  | 0x28 => .setEarth p f.addr f.payload
  | 0x29 => .setOutput p f.addr f.payload
  | 0x2A => .setGroups p f.addr f.payload
  | 0x41 => .learn p f.addr f.payload
  | 0x42 => .abortLearn p f.addr f.payload
  | 0x43 => .testInject p f.addr f.payload
  | 0x44 => .clearLatch p f.addr f.payload
  | 0x45 => .clearMinmax p f.addr f.payload
  | 0x46 => .emergency p f.addr f.payload
  | 0x47 => .freeze p f.addr f.payload
  | 0x48 => .unfreeze p f.addr f.payload
  | 0x49 => .saveImage p f.addr f.payload
  | 0x4A => .restart p f.addr f.payload
  | _ => .unknownKind p f.addr f.kind f.payload

/-- The command that whole bytes heard on a port spell: a request, or a dropped frame (R155). -/
def commandOfBytes (p : Port) (order : RaceOrder) (bs : List Byte) : Option Instr :=
  match hearFrame bs with
  | .frame f => some (f.command p order)
  | .dropped why => some (.frameDropped p why)
  | .incomplete => none

/-! ## Reply bytes (Tables 10.2 to 10.5) -/

/-- The status codes of Table 10.2. -/
def Status.code : Status → Nat
  | .done => 0
  | .clamped => 1
  | .refusedArg => 2
  | .refusedState => 3
  | .refusedBusy => 4
  | .unknownKind => 5
  | .starting => 6

/-- The view codes of Table 10.2. -/
def View.code : View → Nat
  | .live => 0
  | .frozen => 1

/-- The subject codes of Table 10.3. -/
def Subject.code : Subject → Nat
  | .line l => l.val
  | .amp a => 0x20 + a.val
  | .dev => 0x30

/-- The kind codes of Table 10.3, LEARN and RESTART among them. -/
def NoticeKind.code : NoticeKind → Nat
  | .cond k => k.code
  | .learn => 15
  | .restart => 16

/-- The event codes of Table 10.4. -/
def Event.code : Event → Nat
  | .active => 0
  | .clear => 1
  | .learnDone => 2
  | .learnFailed => 3
  | .restart => 4

/-- The cause codes of Table 10.4, 0 for none. -/
def causeCode : Option Cause → Nat
  | none => 0
  | some .attributed => 1
  | some .fault => 2
  | some .timeout => 3
  | some .spread => 4
  | some .aborted => 5
  | some .power => 6
  | some .pin => 7
  | some .command => 8

/-- The flags byte of a notice entry: bit 0 TRANSIENT, bit 1 TEST, bit 2 value present (Table 10.4). -/
def Notice.flags (n : Notice) : Nat :=
  (if n.transient then 1 else 0) + (if n.test then 2 else 0) + (if n.value.isSome then 4 else 0)

/-- The content bytes of a POLL reply with an entry (Table 10.4). -/
def Notice.bytes (n : Notice) (left : Nat) : List Byte :=
  byte1 0 ++ byte1 left ++ byte1 n.subject.code ++ byte1 n.kind.code ++ byte1 n.event.code ++ byte1 (causeCode n.cause)
    ++ byte1 n.level.val ++ byte4 n.round.toNat ++ byte1 n.flags ++ byte2 (n.value.getD 0)

/-- The state codes of a READ-SUMMARY entry (Table 10.5). -/
def summaryStateCode : Option SubjState → Nat
  | some .watching => 0
  | some .held => 1
  | some .off => 2
  | none => 3

/-- The six bytes of a READ-SUMMARY entry (Table 10.5). -/
def SummaryEntry.bytes (e : SummaryEntry) : List Byte :=
  byte1 e.subject.code ++ byte1 (summaryStateCode e.state) ++ byte2 e.active.toNat ++ byte2 e.latched.toNat

/-- The content bytes of a reply, where the spec gives their layout: POLL, READ-SUMMARY, and the replies without
content. The other contents are lists of items without a layout (Introduction, "Requests and replies"). -/
def Content.bytes : Content → Option (List Byte)
  | .empty => some []
  | .pollEntry left n => some (n.bytes left)
  | .pollEmpty left => some (byte1 1 ++ byte1 left)
  | .summary es => some (es.flatMap SummaryEntry.bytes)
  | _ => none

/-- The bytes of a reply frame: the unit address with 0x80 added, the kind of the request, the two header bytes
and the content (Tables 10.1 and 10.2); none where the content has no layout in the spec. -/
def Reply.frame (r : Reply) (unit : Nat) (kind : Byte) : Option (List Byte) :=
  r.content.bytes.map fun content =>
    frameBytes (BitVec.ofNat 8 (unit + 0x80)) kind (byte1 r.status.code ++ byte1 r.view.code ++ content)

end Sys2Proof.Machine
end

