-- ==== Sys2Proof/Machine/Operands.lean ====
section
/-! DEFINITION. The operands of a request: the items of its payload (R161, Table 10.8), the three sorts of field and
their checks (R2), and the parsed form of each request. A parse that fails is a refusal with REFUSED-ARG. -/

namespace Sys2Proof.Machine

/-! ## Items (R161) -/

/-- The width of an item (Table 10.8). -/
inductive ItemWidth where
  | bytes (n : Nat)
  | list (entry : Nat)
  | mark
  | bytesOrMark (n : Nat)
  deriving DecidableEq, Repr

/-- An item of a request kind: its number, its width, whether it is required (Table 10.8). -/
structure ItemSpec where
  number : Nat
  width : ItemWidth
  required : Bool
  deriving DecidableEq, Repr

/-- An item as sent: its number and its value bytes. -/
abbrev Item := Nat × List Byte

/-- A payload divided into items; none when it does not divide exactly. Each item takes at least two bytes, so a
bound of the payload's length is enough. -/
def divideItems : Nat → List Byte → Option (List Item)
  | _, [] => some []
  | 0, _ :: _ => none
  | _ + 1, [_] => none
  | n + 1, item :: len :: rest =>
    if rest.length < len.toNat then none
    else (divideItems n (rest.drop len.toNat)).map ((item.toNat, rest.take len.toNat) :: ·)

/-- A length fits an item's width (R161). -/
def ItemWidth.fits (w : ItemWidth) (len : Nat) : Bool :=
  match w with
  | .bytes n => decide (len = n)
  | .list entry => decide (len % entry = 0)
  | .mark => decide (len = 0)
  | .bytesOrMark n => decide (len = n) || decide (len = 0)

/-- The structure of a kind: items of the kind, none twice, each of its width, the required ones present
(R161). -/
def itemsFit (specs : List ItemSpec) (items : List Item) : Bool :=
  items.all (fun it => specs.any fun sp => decide (sp.number = it.1) && sp.width.fits it.2.length)
    && decide (items.map Prod.fst).Nodup
    && specs.all fun sp => !sp.required || items.any fun it => decide (it.1 = sp.number)

/-- The items of a payload with the structure of its kind (R161). -/
def parseItems (specs : List ItemSpec) (payload : List Byte) : Option (List Item) :=
  match divideItems payload.length payload with
  | some items => if itemsFit specs items then some items else none
  | none => none

/-- The value bytes of an item, if it was sent. -/
def findItem (items : List Item) (number : Nat) : Option (List Byte) :=
  (items.find? fun it => decide (it.1 = number)).map Prod.snd

/-- The number an item carries, if it was sent. -/
def itemValue (items : List Item) (number : Nat) : Option Nat := (findItem items number).map bigEndian

/-! ## The three sorts of field (R2) -/

/-- A selector that must be present: refused out of its range. -/
def selector (items : List Item) (number size : Nat) : Option (Fin size) :=
  match itemValue items number with
  | some x => if h : x < size then some ⟨x, h⟩ else none
  | none => none

/-- A selector that may be absent; the outer none is a refusal. -/
def selectorField (items : List Item) (number size : Nat) : Option (Option (Fin size)) :=
  match itemValue items number with
  | some x => if h : x < size then some (some ⟨x, h⟩) else none
  | none => some none

/-- An enumerated field that may be absent; the outer none, a value outside its set, is a refusal. -/
def enumField {α : Type} (items : List Item) (number : Nat) (decode : Nat → Option α) : Option (Option α) :=
  match itemValue items number with
  | some x => (decode x).map some
  | none => some none

/-- A numeric field that may be absent, clamped to its range, with whether it was clamped. -/
def numField (items : List Item) (number lo hi : Nat) : Option Nat × Bool :=
  match itemValue items number with
  | some x => (some (clampNat lo hi x), decide (clampNat lo hi x ≠ x))
  | none => (none, false)

/-! ## Codings (Table 10.8) -/

/-- 0 OFF, 1 WATCHING, 2 HELD. -/
def SubjState.ofCode : Nat → Option SubjState
  | 0 => some .off
  | 1 => some .watching
  | 2 => some .held
  | _ => none

/-- 0 NORMALLY-OPEN, 1 NORMALLY-CLOSED. -/
def Polarity.ofCode : Nat → Option Polarity
  | 0 => some .normallyOpen
  | 1 => some .normallyClosed
  | _ => none

/-- 0 1oo1, 1 2oo3, 2 4oo8, 3 7oo8. -/
def VoteRule.ofCode : Nat → Option VoteRule
  | 0 => some .r1oo1
  | 1 => some .r2oo3
  | 2 => some .r4oo8
  | 3 => some .r7oo8
  | _ => none

/-- 0 ON, 1 OFF (Table 10.8, SET-EARTH). -/
def supervisionOfCode : Nat → Option Bool
  | 0 => some true
  | 1 => some false
  | _ => none

/-- A soak time by its milliseconds. -/
def SoakTime.ofMs : Nat → Option SoakTime
  | 50 => some .ms50
  | 100 => some .ms100
  | 200 => some .ms200
  | 500 => some .ms500
  | 1000 => some .ms1000
  | 2000 => some .ms2000
  | _ => none

/-- 0 OFF, 1 STATIC, 2 PULSED. -/
def OutMode.ofCode : Nat → Option OutMode
  | 0 => some .off
  | 1 => some .static
  | 2 => some .pulsed
  | _ => none

/-- A class mask; bits 5 to 7 name classes outside the five. -/
def maskOfCode (x : Nat) : Option (BitVec 5) := if x < 32 then some (BitVec.ofNat 5 x) else none

/-- 0 NO, 1 YES. -/
def yesNoOfCode : Nat → Option Bool
  | 0 => some false
  | 1 => some true
  | _ => none

/-- 0 FLT-A, 1 FLT-B. -/
def OutputId.ofCode : Nat → Option OutputId
  | 0 => some .fltA
  | 1 => some .fltB
  | _ => none

/-- A subject by its code (Table 10.3). -/
def Subject.ofCode (x : Nat) : Option Subject :=
  if h : x < 24 then some (.line ⟨x, h⟩)
  else if h : 0x20 ≤ x ∧ x < 0x28 then some (.amp ⟨x - 0x20, by omega⟩)
  else if x = 0x30 then some .dev
  else none

/-- A ring entry by its subject code: a line or an amplifier (R72). -/
def RingEntry.ofCode (x : Nat) : Option RingEntry :=
  if h : x < 24 then some (.line ⟨x, h⟩)
  else if h : 0x20 ≤ x ∧ x < 0x28 then some (.amp ⟨x - 0x20, by omega⟩)
  else none

/-- The condition record a subject and a kind code name, if the kind is one of the subject's (Table 7.1). -/
def CondId.ofCode (x : Subject) (code : Nat) : Option CondId :=
  match Kind.ofCode code with
  | some k => (condsOf x).find? fun id => decide (id.kind = k)
  | none => none

/-- Decoding each of a list; none if one fails. -/
def decodeAll {α β : Type} (decode : α → Option β) : List α → Option (List β)
  | [] => some []
  | x :: xs =>
    match decode x, decodeAll decode xs with
    | some y, some ys => some (y :: ys)
    | _, _ => none

/-! ## Payloads of one byte or none (R161) -/

/-- The payload of READ-LINE, READ-AMP or READ-PROFILE: one byte below a bound. -/
def oneByteSelector (payload : List Byte) (size : Nat) : Option (Fin size) :=
  match payload with
  | [b] => if h : b.toNat < size then some ⟨b.toNat, h⟩ else none
  | _ => none

/-! ## Setting requests (Table 10.8) -/

/-- A parsed SET-LINE. zref: absent, the mark CLEAR (some none), or a value. -/
structure LineChange where
  line : LineId
  state : Option SubjState
  amp : Option AmpId
  zone : Option Zone
  profile : Option ProfileId
  zref : Option (Option Nat)
  clamped : Bool
  deriving DecidableEq, Repr

/-- SET-LINE's items. -/
def setLineItems : List ItemSpec :=
  [⟨1, .bytes 1, true⟩, ⟨2, .bytes 1, false⟩, ⟨3, .bytes 1, false⟩, ⟨4, .bytes 1, false⟩, ⟨5, .bytes 1, false⟩,
   ⟨6, .bytesOrMark 2, false⟩]

/-- The zref field of SET-LINE: a length of 0 is the mark CLEAR, a value is clamped to 1–65534 (R4). -/
def zrefField (items : List Item) : Option (Option Nat) × Bool :=
  match findItem items 6 with
  | none => (none, false)
  | some [] => (some none, false)
  | some bs =>
    let x := bigEndian bs
    (some (some (clampNat 1 65534 x)), decide (clampNat 1 65534 x ≠ x))

/-- R2, R4. A request with its selector alone carries no field to write. -/
def parseSetLine (payload : List Byte) : Option LineChange := do
  let items ← parseItems setLineItems payload
  let line ← selector items 1 24
  let state ← enumField items 2 SubjState.ofCode
  let amp ← selectorField items 3 8
  let zone ← selectorField items 4 16
  let profile ← selectorField items 5 4
  let zref := zrefField items
  if items.length ≤ 1 then none
  else some { line, state, amp, zone, profile, zref := zref.1, clamped := zref.2 }

/-- A parsed SET-AMP. -/
structure AmpChange where
  amp : AmpId
  state : Option SubjState
  polarity : Option Polarity
  deriving DecidableEq, Repr

/-- SET-AMP's items. -/
def setAmpItems : List ItemSpec := [⟨1, .bytes 1, true⟩, ⟨2, .bytes 1, false⟩, ⟨3, .bytes 1, false⟩]

/-- R2, R9. -/
def parseSetAmp (payload : List Byte) : Option AmpChange := do
  let items ← parseItems setAmpItems payload
  let amp ← selector items 1 8
  let state ← enumField items 2 SubjState.ofCode
  let polarity ← enumField items 3 Polarity.ofCode
  if items.length ≤ 1 then none else some { amp, state, polarity }

/-- A parsed SET-AMP-WIDE. -/
structure AmpWideChange where
  rule : Option VoteRule
  overload : Option Nat
  vmin : Option Nat
  freqTol : Option Nat
  clamped : Bool
  deriving DecidableEq, Repr

/-- SET-AMP-WIDE's items. -/
def setAmpWideItems : List ItemSpec :=
  [⟨1, .bytes 1, false⟩, ⟨2, .bytes 2, false⟩, ⟨3, .bytes 2, false⟩, ⟨4, .bytes 1, false⟩]

/-- R2, R10: refused when it carries none of the four. -/
def parseSetAmpWide (payload : List Byte) : Option AmpWideChange := do
  let items ← parseItems setAmpWideItems payload
  let rule ← enumField items 1 VoteRule.ofCode
  let overload := numField items 2 100 4095
  let vmin := numField items 3 10 1000
  let tol := numField items 4 1 255
  if items.length = 0 then none
  else
    some
      { rule, overload := overload.1, vmin := vmin.1, freqTol := tol.1, clamped := overload.2 || vmin.2 || tol.2 }

/-- A parsed SET-PROFILE, its fields in the order of Table 1.6. -/
structure ProfileChange where
  profile : ProfileId
  impRule : Option VoteRule
  earthRule : Option VoteRule
  high : Option Nat
  low : Option Nat
  shortLimit : Option Nat
  openLimit : Option Nat
  ishort : Option Nat
  vmin : Option Nat
  imin : Option Nat
  maskLevel : Option Nat
  maskLimit : Option Nat
  earthThreshold : Option Nat
  clamped : Bool
  deriving DecidableEq, Repr

/-- SET-PROFILE's items. -/
def setProfileItems : List ItemSpec :=
  [⟨1, .bytes 1, true⟩, ⟨2, .bytes 1, false⟩, ⟨3, .bytes 1, false⟩, ⟨4, .bytes 2, false⟩, ⟨5, .bytes 2, false⟩,
   ⟨6, .bytes 2, false⟩, ⟨7, .bytes 2, false⟩, ⟨8, .bytes 2, false⟩, ⟨9, .bytes 2, false⟩, ⟨10, .bytes 1, false⟩,
   ⟨11, .bytes 2, false⟩, ⟨12, .bytes 1, false⟩, ⟨13, .bytes 2, false⟩]

/-- R2, R12, with the ranges of Table 1.6. -/
def parseSetProfile (payload : List Byte) : Option ProfileChange := do
  let items ← parseItems setProfileItems payload
  let profile ← selector items 1 4
  let impRule ← enumField items 2 VoteRule.ofCode
  let earthRule ← enumField items 3 VoteRule.ofCode
  let high := numField items 4 10 900
  let low := numField items 5 10 900
  let shortLimit := numField items 6 1 2000
  let openLimit := numField items 7 100 65534
  let ishort := numField items 8 100 4095
  let vmin := numField items 9 10 1000
  let imin := numField items 10 1 100
  let maskLevel := numField items 11 50 4095
  let maskLimit := numField items 12 1 255
  let threshold := numField items 13 10 5000
  if items.length ≤ 1 then none
  else
    some
      { profile, impRule, earthRule, high := high.1, low := low.1, shortLimit := shortLimit.1
        openLimit := openLimit.1, ishort := ishort.1, vmin := vmin.1, imin := imin.1, maskLevel := maskLevel.1
        maskLimit := maskLimit.1, earthThreshold := threshold.1
        clamped := high.2 || low.2 || shortLimit.2 || openLimit.2 || ishort.2 || vmin.2 || imin.2 || maskLevel.2
          || maskLimit.2 || threshold.2 }

/-- A parsed SET-LEVELS: pairs of a kind and its level after clamping. -/
structure LevelsChange where
  pairs : List (Kind × Level)
  clamped : Bool
  deriving DecidableEq, Repr

/-- A byte string in pairs. -/
def inPairs : List Byte → List (Nat × Nat)
  | a :: b :: rest => (a.toNat, b.toNat) :: inPairs rest
  | _ => []

/-- A level above 7 is clamped to 7 (R13). -/
def clampLevel (x : Nat) : Level := ⟨min 7 x, by omega⟩

/-- SET-LEVELS's items. -/
def setLevelsItems : List ItemSpec := [⟨1, .list 2, false⟩]

/-- R13: one to fifteen pairs, no kind outside the fifteen, none twice. -/
def parseSetLevels (payload : List Byte) : Option LevelsChange := do
  let items ← parseItems setLevelsItems payload
  let value ← findItem items 1
  let pairs := inPairs value
  let kinds ← decodeAll Kind.ofCode (pairs.map Prod.fst)
  if pairs.length = 0 ∨ ¬ kinds.Nodup then none
  else
    some
      { pairs := kinds.zip (pairs.map fun x => clampLevel x.2)
        clamped := pairs.any fun x => decide (7 < x.2) }

/-- A parsed SET-SCAN: the ring written, or the default-ring mark, and the four settings. -/
structure ScanChange where
  ring : Option (List RingEntry)
  defaultRing : Bool
  settle : Option Nat
  accum : Option Nat
  period : Option Nat
  freezeTime : Option Nat
  clamped : Bool
  deriving DecidableEq, Repr

/-- A round period after clamping: 0 stays, the rest lies in 100–60 000 ms (R72). -/
def clampPeriod (x : Nat) : Nat := if x = 0 then 0 else clampNat 100 60000 x

/-- A ring that SET-SCAN accepts: 1 to 48 entries, no subject three times or more (R58, R72). -/
def ringAccepted (ring : List RingEntry) : Bool :=
  decide (1 ≤ ring.length) && decide (ring.length ≤ 48) && ring.all fun e => decide (ring.count e ≤ 2)

/-- SET-SCAN's items. -/
def setScanItems : List ItemSpec :=
  [⟨1, .list 1, false⟩, ⟨2, .mark, false⟩, ⟨3, .bytes 1, false⟩, ⟨4, .bytes 1, false⟩, ⟨5, .bytes 2, false⟩,
   ⟨6, .bytes 1, false⟩]

/-- The ring field of SET-SCAN; the outer none is a refusal (R72). -/
def ringField (items : List Item) : Option (Option (List RingEntry)) :=
  match findItem items 1 with
  | none => some none
  | some bs =>
    match decodeAll (fun (b : Byte) => RingEntry.ofCode b.toNat) bs with
    | some ring => if ringAccepted ring then some (some ring) else none
    | none => none

/-- The round period field of SET-SCAN with whether it was clamped (R72). -/
def periodField (items : List Item) : Option Nat × Bool :=
  match itemValue items 5 with
  | some x => (some (clampPeriod x), decide (clampPeriod x ≠ x))
  | none => (none, false)

/-- R2, R72. -/
def parseSetScan (payload : List Byte) : Option ScanChange := do
  let items ← parseItems setScanItems payload
  let ring ← ringField items
  let mark := (findItem items 2).isSome
  let settle := numField items 3 1 15
  let accum := numField items 4 0 7
  let period := periodField items
  let freeze := numField items 6 1 255
  if items.length = 0 ∨ (ring.isSome = true ∧ mark = true) then none
  else
    some
      { ring, defaultRing := mark, settle := settle.1, accum := accum.1, period := period.1, freezeTime := freeze.1
        clamped := settle.2 || accum.2 || period.2 || freeze.2 }

/-- SET-PILOT's items. -/
def setPilotItems : List ItemSpec := [⟨1, .bytes 2, false⟩]

/-- R19: the divider after clamping to 1100–1400, with whether it was clamped; refused without the field. -/
def parseSetPilot (payload : List Byte) : Option (Nat × Bool) := do
  let items ← parseItems setPilotItems payload
  let d := numField items 1 1100 1400
  match d.1 with
  | some x => some (x, d.2)
  | none => none

/-- A parsed SET-EARTH. -/
structure EarthChange where
  supervision : Option Bool
  soak : Option SoakTime
  ne : Option Nat
  clamped : Bool
  deriving DecidableEq, Repr

/-- SET-EARTH's items. -/
def setEarthItems : List ItemSpec := [⟨1, .bytes 1, false⟩, ⟨2, .bytes 2, false⟩, ⟨3, .bytes 1, false⟩]

/-- R87. -/
def parseSetEarth (payload : List Byte) : Option EarthChange := do
  let items ← parseItems setEarthItems payload
  let supervision ← enumField items 1 supervisionOfCode
  let soak ← enumField items 2 SoakTime.ofMs
  let ne := numField items 3 4 16
  if items.length = 0 then none else some { supervision, soak, ne := ne.1, clamped := ne.2 }

/-- A parsed SET-OUTPUT. -/
structure OutputChange where
  out : OutputId
  mode : Option OutMode
  mask : Option (BitVec 5)
  invert : Option Bool
  latched : Option Bool
  short : Option Bool
  deriving DecidableEq, Repr

/-- SET-OUTPUT's items. -/
def setOutputItems : List ItemSpec :=
  [⟨1, .bytes 1, true⟩, ⟨2, .bytes 1, false⟩, ⟨3, .bytes 1, false⟩, ⟨4, .bytes 1, false⟩, ⟨5, .bytes 1, false⟩,
   ⟨6, .bytes 1, false⟩]

/-- R153. -/
def parseSetOutput (payload : List Byte) : Option OutputChange := do
  let items ← parseItems setOutputItems payload
  let code ← itemValue items 1
  let out ← OutputId.ofCode code
  let mode ← enumField items 2 OutMode.ofCode
  let mask ← enumField items 3 maskOfCode
  let invert ← enumField items 4 yesNoOfCode
  let latched ← enumField items 5 yesNoOfCode
  let short ← enumField items 6 yesNoOfCode
  if items.length ≤ 1 then none else some { out, mode, mask, invert, latched, short }

/-- A group address, 0x40 to 0x4F (R160). -/
def isGroupAddress (b : Byte) : Bool := decide (0x40 ≤ b.toNat) && decide (b.toNat ≤ 0x4F)

/-- A list of group addresses that SET-GROUPS accepts (R160). -/
def groupsAccepted (gs : List Byte) : Bool := decide (gs.length ≤ 4) && gs.all isGroupAddress && decide gs.Nodup

/-- SET-GROUPS's items. -/
def setGroupsItems : List ItemSpec := [⟨1, .list 1, false⟩]

/-- R160: an empty list is accepted; a request without the list carries no field to write (R2). -/
def parseSetGroups (payload : List Byte) : Option (List Byte) := do
  let items ← parseItems setGroupsItems payload
  let gs ← findItem items 1
  if groupsAccepted gs then some gs else none

/-! ## Actions (Table 10.8) -/

/-- LEARN's items. -/
def learnItems : List ItemSpec := [⟨1, .bytes 1, true⟩, ⟨2, .bytes 1, false⟩]

/-- R132: the line, the target M after clamping to 4–32 (16 when absent), and whether it was clamped. -/
def parseLearn (payload : List Byte) : Option (LineId × Nat × Bool) := do
  let items ← parseItems learnItems payload
  let line ← selector items 1 24
  let m := numField items 2 4 32
  some (line, m.1.getD 16, m.2)

/-- ABORT-LEARN's items. -/
def abortLearnItems : List ItemSpec := [⟨1, .bytes 1, true⟩]

/-- R139. -/
def parseAbortLearn (payload : List Byte) : Option LineId := do
  let items ← parseItems abortLearnItems payload
  selector items 1 24

/-- A parsed TEST-INJECT. -/
structure Injection where
  subject : Subject
  cond : CondId
  count : Nat
  deriving DecidableEq, Repr

/-- TEST-INJECT's items. -/
def testInjectItems : List ItemSpec := [⟨1, .bytes 1, true⟩, ⟨2, .bytes 1, true⟩, ⟨3, .bytes 1, true⟩]

/-- R126: the kind must be a voted condition of the subject. -/
def parseTestInject (payload : List Byte) : Option Injection := do
  let items ← parseItems testInjectItems payload
  let subjectCode ← itemValue items 1
  let subject ← Subject.ofCode subjectCode
  let kindCode ← itemValue items 2
  let cond ← CondId.ofCode subject kindCode
  let count ← itemValue items 3
  if cond.voted then some { subject, cond, count } else none

/-- CLEAR-LATCH's items. -/
def clearLatchItems : List ItemSpec := [⟨1, .bytes 1, false⟩]

/-- R122: the subjects named, all of them without the item. -/
def parseClearLatch (payload : List Byte) : Option (List Subject) := do
  let items ← parseItems clearLatchItems payload
  match itemValue items 1 with
  | none => some allSubjects
  | some code => (Subject.ofCode code).map ([·])

/-- CLEAR-MINMAX's items. -/
def clearMinmaxItems : List ItemSpec := [⟨1, .bytes 1, false⟩]

/-- R56: the lines named, all of them without the item. -/
def parseClearMinmax (payload : List Byte) : Option (List LineId) := do
  let items ← parseItems clearMinmaxItems payload
  let line ← selectorField items 1 24
  match line with
  | none => some allLines
  | some l => some [l]

/-- EMERGENCY's items. -/
def emergencyItems : List ItemSpec := [⟨1, .bytes 2, true⟩]

/-- R14: the complete zone set, bit z for zone z. -/
def parseEmergency (payload : List Byte) : Option (BitVec 16) := do
  let items ← parseItems emergencyItems payload
  let x ← itemValue items 1
  some (BitVec.ofNat 16 x)

/-- POLL's items. -/
def pollItems : List ItemSpec := [⟨1, .bytes 1, false⟩]

/-- R147: the minimum level, 0 when absent; above 7 it is refused, not clamped. -/
def parsePoll (payload : List Byte) : Option Level := do
  let items ← parseItems pollItems payload
  let level ← selectorField items 1 8
  some (level.getD 0)

end Sys2Proof.Machine
end

