-- ==== Sys2Proof/Machine/Image.lean ====
section
/-! DEFINITION. The stored image (R166): its bytes from the settings in force, and the settings read back from the
serial memory with the checks and clamps of R168. -/

namespace Sys2Proof.Machine

/-! ## The serial memory -/

/-- The serial memory's size, 2 KB (R166). -/
def memorySize : Nat := 2048

/-- What a byte that is not listed reads as: an erased cell, all ones. DESIGN CHOICE, assumption log 8. -/
def erasedByte : Byte := 0xFF

/-- Reading one byte of the serial memory. -/
def readByte (mem : List Host.Cell) (a : Nat) : Byte :=
  match mem with
  | [] => erasedByte
  | (b, x) :: rest => if a = b then x else readByte rest a

/-- Writing one byte, keeping the addresses rising and no byte listed that reads as erased. -/
def writeByte (mem : List Host.Cell) (a : Nat) (x : Byte) : List Host.Cell :=
  match mem with
  | [] => if x = erasedByte then [] else [(a, x)]
  | (b, y) :: rest =>
    if a < b then (if x = erasedByte then (b, y) :: rest else (a, x) :: (b, y) :: rest)
    else if a = b then (if x = erasedByte then rest else (a, x) :: rest)
    else (b, y) :: writeByte rest a x

/-- Writing bytes from an address on. -/
def writeBytes (mem : List Host.Cell) (a : Nat) : List Byte → List Host.Cell
  | [] => mem
  | x :: xs => writeBytes (writeByte mem a x) (a + 1) xs

/-- Reading n bytes from an address on. -/
def readBytes (mem : List Host.Cell) (a n : Nat) : List Byte := (List.range n).map fun i => readByte mem (a + i)

/-- The canonical form: addresses strictly rising and within the memory, no byte listed that reads as erased. -/
def Memory.wf (mem : List Host.Cell) : Bool :=
  decide ((mem.map Prod.fst).Pairwise (· < ·)) && mem.all fun c => decide (c.1 < memorySize) && decide (c.2 ≠ erasedByte)

/-! ## Writing the settings (R166) -/

/-- 0 OFF, 1 WATCHING, 2 HELD. -/
def SubjState.code : SubjState → Nat
  | .off => 0
  | .watching => 1
  | .held => 2

/-- 0 NORMALLY-OPEN, 1 NORMALLY-CLOSED. -/
def Polarity.code : Polarity → Nat
  | .normallyOpen => 0
  | .normallyClosed => 1

/-- 0 1oo1, 1 2oo3, 2 4oo8, 3 7oo8. -/
def VoteRule.code : VoteRule → Nat
  | .r1oo1 => 0
  | .r2oo3 => 1
  | .r4oo8 => 2
  | .r7oo8 => 3

/-- 0 OFF, 1 STATIC, 2 PULSED. -/
def OutMode.code : OutMode → Nat
  | .off => 0
  | .static => 1
  | .pulsed => 2

/-- 0 DEFAULT, 1 CUSTOM (R166 item 7). -/
def RingForm.code : RingForm → Nat
  | .byDefault => 0
  | .custom => 1

/-- 0 NO, 1 YES. -/
def yesNoCode (b : Bool) : Nat := if b then 1 else 0

/-- A ring entry's subject code (Table 10.3). -/
def RingEntry.code (e : RingEntry) : Nat := e.subject.code

/-- Six bytes: state, amp, zone, profile, then zref with 0 for absent (R166 item 1). -/
def LineEntry.bytes (e : LineEntry) : List Byte :=
  byte1 e.state.code ++ byte1 e.amp.val ++ byte1 e.zone.val ++ byte1 e.profile.val ++ byte2 (e.zref.getD 0)

/-- Two bytes (R166 item 2). -/
def AmpEntry.bytes (e : AmpEntry) : List Byte := byte1 e.state.code ++ byte1 e.polarity.code

/-- R166 item 3. -/
def AmpWide.bytes (w : AmpWide) : List Byte :=
  byte1 w.rule.code ++ byte2 w.overload ++ byte2 w.vmin ++ byte1 w.freqTol

/-- Twelve fields in the order of Table 1.6, each in the width of its request item (R166 item 4). -/
def Profile.bytes (p : Profile) : List Byte :=
  byte1 p.impRule.code ++ byte1 p.earthRule.code ++ byte2 p.high ++ byte2 p.low ++ byte2 p.shortLimit
    ++ byte2 p.openLimit ++ byte2 p.ishort ++ byte2 p.vmin ++ byte1 p.imin ++ byte2 p.maskLevel ++ byte1 p.maskLimit
    ++ byte2 p.earthThreshold

/-- R166 item 7. -/
def ringBytes (form : RingForm) (ring : List RingEntry) : List Byte :=
  byte1 form.code ++ byte1 ring.length ++ ring.flatMap fun e => byte1 e.code

/-- R166 item 8. -/
def ScanSettings.bytes (x : ScanSettings) : List Byte :=
  byte1 x.settle ++ byte1 x.accum ++ byte2 x.period ++ byte1 x.freezeTime

/-- R166 item 9: 0 ON, 1 OFF, as SET-EARTH codes it. -/
def EarthSettings.bytes (e : EarthSettings) : List Byte :=
  byte1 (yesNoCode (!e.supervision)) ++ byte2 e.soak.ms ++ byte1 e.ne

/-- R166 item 10. -/
def OutSettings.bytes (o : OutSettings) : List Byte :=
  byte1 o.mode.code ++ byte1 o.mask.toNat ++ byte1 (yesNoCode o.invert) ++ byte1 (yesNoCode o.latched)
    ++ byte1 (yesNoCode o.short)

/-- R166 item 11. -/
def groupBytes (gs : List Byte) : List Byte := byte1 gs.length ++ gs

/-- The stored settings in the order of R166. -/
def Settings.bytes (c : Settings) : List Byte :=
  allLines.flatMap (fun l => c.lines[l].bytes)
    ++ allAmps.flatMap (fun a => c.amps[a].bytes)
    ++ c.wide.bytes
    ++ (List.finRange 4).flatMap (fun p => c.profiles[p].bytes)
    ++ (List.finRange 15).flatMap (fun k => byte1 c.levels[k].val)
    ++ byte2 c.pilotD
    ++ ringBytes c.form c.ring
    ++ c.scan.bytes
    ++ c.earth.bytes
    ++ c.outA.bytes ++ c.outB.bytes
    ++ groupBytes c.groups

/-- The format code of an image (R166). -/
def imageFormat : Nat := 0x2408

/-- The image: header of format code, length and CRC-16, then the settings (R166). -/
def Settings.image (c : Settings) : List Byte :=
  byte2 imageFormat ++ byte2 c.bytes.length ++ byte2 (crc16 c.bytes).toNat ++ c.bytes

/-! ## Reading the settings (R168) -/

/-- A reader of the settings: what it reads and the bytes left, or none where the load fails. -/
abbrev Reader (α : Type) := List Byte → Option (α × List Byte)

/-- One reader after another. -/
def Reader.andThen {α β : Type} (r : Reader α) (f : α → Reader β) : Reader β := fun bs =>
  match r bs with
  | some (x, rest) => f x rest
  | none => none

/-- A reader that reads nothing. -/
def Reader.give {α : Type} (x : α) : Reader α := fun bs => some (x, bs)

/-- One byte as a number. -/
def readNum1 : Reader Nat := fun bs =>
  match bs with
  | b :: rest => some (b.toNat, rest)
  | [] => none

/-- Two bytes as a number, high byte first. -/
def readNum2 : Reader Nat := fun bs =>
  match bs with
  | b :: c :: rest => some (b.toNat * 256 + c.toNat, rest)
  | _ => none

/-- A number checked and turned into a value; the load fails where the setting request would refuse. -/
def Reader.decode {α : Type} (r : Reader Nat) (f : Nat → Option α) : Reader α :=
  r.andThen fun x bs => (f x).map fun y => (y, bs)

/-- A number clamped as a setting request would clamp it (R168). -/
def Reader.clamp (r : Reader Nat) (lo hi : Nat) : Reader Nat := r.andThen fun x => Reader.give (clampNat lo hi x)

/-- n things one after another. -/
def readMany {α : Type} (r : Reader α) : (n : Nat) → Reader (Vector α n)
  | 0 => Reader.give #v[]
  | n + 1 => (readMany r n).andThen fun v => r.andThen fun x => Reader.give (v.push x)

/-- n things one after another, as a list. -/
def readList {α : Type} (r : Reader α) : Nat → Reader (List α)
  | 0 => Reader.give []
  | n + 1 => r.andThen fun x => (readList r n).andThen fun xs => Reader.give (x :: xs)

/-- A selector of a table of the given size. -/
def selectorOf (size x : Nat) : Option (Fin size) := if h : x < size then some ⟨x, h⟩ else none

/-- A zref: 0 is absent, a value is clamped to 1–65534 (R4, R166). -/
def zrefOf (x : Nat) : Option Nat := if x = 0 then none else some (clampNat 1 65534 x)

/-- A stored ring form: 0 DEFAULT, 1 CUSTOM. -/
def RingForm.ofCode : Nat → Option RingForm
  | 0 => some .byDefault
  | 1 => some .custom
  | _ => none

/-- R166 item 1. -/
def readLineEntry : Reader LineEntry :=
  (readNum1.decode SubjState.ofCode).andThen fun state =>
  (readNum1.decode (selectorOf 8)).andThen fun amp =>
  (readNum1.decode (selectorOf 16)).andThen fun zone =>
  (readNum1.decode (selectorOf 4)).andThen fun profile =>
  readNum2.andThen fun zref =>
  Reader.give { state, amp, zone, profile, zref := zrefOf zref }

/-- R166 item 2. -/
def readAmpEntry : Reader AmpEntry :=
  (readNum1.decode SubjState.ofCode).andThen fun state =>
  (readNum1.decode Polarity.ofCode).andThen fun polarity =>
  Reader.give { state, polarity }

/-- R166 item 3. -/
def readAmpWide : Reader AmpWide :=
  (readNum1.decode VoteRule.ofCode).andThen fun rule =>
  (readNum2.clamp 100 4095).andThen fun overload =>
  (readNum2.clamp 10 1000).andThen fun vmin =>
  (readNum1.clamp 1 255).andThen fun freqTol =>
  Reader.give { rule, overload, vmin, freqTol }

/-- R166 item 4. -/
def readProfileEntry : Reader Profile :=
  (readNum1.decode VoteRule.ofCode).andThen fun impRule =>
  (readNum1.decode VoteRule.ofCode).andThen fun earthRule =>
  (readNum2.clamp 10 900).andThen fun high =>
  (readNum2.clamp 10 900).andThen fun low =>
  (readNum2.clamp 1 2000).andThen fun shortLimit =>
  (readNum2.clamp 100 65534).andThen fun openLimit =>
  (readNum2.clamp 100 4095).andThen fun ishort =>
  (readNum2.clamp 10 1000).andThen fun vmin =>
  (readNum1.clamp 1 100).andThen fun imin =>
  (readNum2.clamp 50 4095).andThen fun maskLevel =>
  (readNum1.clamp 1 255).andThen fun maskLimit =>
  (readNum2.clamp 10 5000).andThen fun earthThreshold =>
  Reader.give
    { impRule, earthRule, high, low, shortLimit, openLimit, ishort, vmin, imin, maskLevel, maskLimit, earthThreshold }

/-- R166 item 7; a ring that SET-SCAN would refuse fails the load (R168). -/
def readRing : Reader (RingForm × List RingEntry) :=
  (readNum1.decode RingForm.ofCode).andThen fun form =>
  readNum1.andThen fun n =>
  (readList (readNum1.decode RingEntry.ofCode) n).andThen fun ring bs =>
    if ringAccepted ring then some ((form, ring), bs) else none

/-- R166 item 8. -/
def readScan : Reader ScanSettings :=
  (readNum1.clamp 1 15).andThen fun settle =>
  (readNum1.clamp 0 7).andThen fun accum =>
  readNum2.andThen fun period =>
  (readNum1.clamp 1 255).andThen fun freezeTime =>
  Reader.give { settle, accum, period := clampPeriod period, freezeTime }

/-- R166 item 9. -/
def readEarth : Reader EarthSettings :=
  (readNum1.decode supervisionOfCode).andThen fun supervision =>
  (readNum2.decode SoakTime.ofMs).andThen fun soak =>
  (readNum1.clamp 4 16).andThen fun ne =>
  Reader.give { supervision, soak, ne }

/-- R166 item 10. -/
def readOutput : Reader OutSettings :=
  (readNum1.decode OutMode.ofCode).andThen fun mode =>
  (readNum1.decode maskOfCode).andThen fun mask =>
  (readNum1.decode yesNoOfCode).andThen fun invert =>
  (readNum1.decode yesNoOfCode).andThen fun latched =>
  (readNum1.decode yesNoOfCode).andThen fun short =>
  Reader.give { mode, mask, invert, latched, short }

/-- R166 item 11; a list that SET-GROUPS would refuse fails the load (R168). -/
def readGroups : Reader (List Byte) :=
  readNum1.andThen fun n =>
  (readList (readNum1.andThen fun x => Reader.give (BitVec.ofNat 8 x)) n).andThen fun gs bs =>
    if groupsAccepted gs then some (gs, bs) else none

/-- The stored settings in the order of R166. -/
def readSettings : Reader Settings :=
  (readMany readLineEntry 24).andThen fun lines =>
  (readMany readAmpEntry 8).andThen fun amps =>
  readAmpWide.andThen fun wide =>
  (readMany readProfileEntry 4).andThen fun profiles =>
  (readMany (readNum1.andThen fun x => Reader.give (clampLevel x)) 15).andThen fun levels =>
  (readNum2.clamp 1100 1400).andThen fun pilotD =>
  readRing.andThen fun ring =>
  readScan.andThen fun scan =>
  readEarth.andThen fun earth =>
  readOutput.andThen fun outA =>
  readOutput.andThen fun outB =>
  readGroups.andThen fun groups =>
  Reader.give
    { lines, amps, wide, profiles, levels, pilotD, form := ring.1, ring := ring.2, scan, earth, outA, outB, groups }

/-- The settings that fill a byte string exactly (R168). -/
def parseSettings (bs : List Byte) : Option Settings :=
  match readSettings bs with
  | some (c, []) => some c
  | _ => none

/-- The settings the serial memory's image gives, or none where the load fails (R168): the format code, the length
within the memory less its header, the CRC, then the layout and the values. -/
def loadImage (mem : List Host.Cell) : Option Settings :=
  let format := bigEndian (readBytes mem 0 2)
  let length := bigEndian (readBytes mem 2 2)
  let crc := bigEndian (readBytes mem 4 2)
  if format ≠ imageFormat then none
  else if memorySize - 6 < length then none
  else
    let body := readBytes mem 6 length
    if crc = (crc16 body).toNat then parseSettings body else none

/-! ## A write that did not end well (R171) -/

/-- The address of the stored CRC's high byte (R166). -/
def crcAddress : Nat := 4

/-- The memory after an image write that did not end well (R171, assumption log 9): the bytes it covers read as
`bytes`. Where that is neither the memory from before the write nor the whole image, it is a partial image; one whose
checks would pass by chance has its stored CRC spoilt, since a partial image fails its CRC at the next load. -/
def spoiltMemory (mem : List Host.Cell) (image bytes : List Byte) : List Host.Cell :=
  let m := writeBytes mem 0 bytes
  if m = mem ∨ bytes = image ∨ loadImage m = none then m else writeByte m crcAddress (~~~ readByte m crcAddress)

end Sys2Proof.Machine
end

