-- ==== Sys2Proof/Machine/Boot.lean ====
section
/-! DEFINITION. BOOT: hard resets, the straps, the Load step, the Clear step, the soft restart and the end of an
image write (Chapter 11), with what each restart abandons. -/

namespace Sys2Proof.Machine

/-! ## What a restart abandons (R34, R75, R90, R140, R149, R165) -/

/-- At the start of every restart: the phase is STARTING, both pins high-impedance, LCONV IDLE, SEQ STOPPED, EBRG
IDLE with the bias off, no learning record, no frozen view, and no port holding a frame. -/
def State.stopAll (s : State) : State :=
  { s with
    boot := { s.boot with phase := .starting, restartDue := none }
    fout := { a := s.fout.a.stop, b := s.fout.b.stop }
    lconv := none
    seq := { s.seq with state := .stopped }
    ebrg := { s.ebrg with mode := .idle }
    learn := Vector.ofFn fun _ => none
    link :=
      { s.link with
        portA := { s.link.portA with held := none }
        portB := { s.link.portB with held := none }
        frozen := none } }

/-! ## The Clear step (R169) -/

/-- Everything the Clear step clears (R29, R55, R59, R65, R75, R86, R90, R97, R108, R146, R148, R159, R162, R169); a
ring of DEFAULT form is rebuilt. -/
def State.clearAll (s : State) : State :=
  { s with
    cfg := { s.cfg with ring := if s.cfg.form = .byDefault then defaultRing s.cfg.lines else s.cfg.ring }
    recs := Records.cleared
    firstCount := Vector.ofFn fun _ => true
    nq := { entries := [], overflow := false }
    seq := Seq.cleared
    ebrg := Ebrg.cleared
    link :=
      { s.link with
        portA := { s.link.portA with dropped := 0 }
        portB := { s.link.portB with dropped := 0 }
        changeCounter := 0
        freezeExpired := false } }

/-- The cause a RESTART notice carries (R143). -/
def RestartCause.cause : RestartCause → Cause
  | .power => .power
  | .pin => .pin
  | .command => .command

/-- The end of the Clear step: the RESTART notice, then CONFIG where the start-up raises it, its notice the younger
(R129, R169). -/
def State.announceRestart (s : State) (cause : RestartCause) (config : Bool) : State :=
  let s1 := (s.notify .dev .restart .restart (some cause.cause) none false).reevalOutputs
  if config then s1.moveCond (.dev .config) .active none none false else s1

/-- The device phase becomes RUNNING: each output starts, SEQ starts round 0 and EBRG makes its first choice (R75,
R80, R149, R169). -/
def State.run (s : State) : State :=
  ({ s with boot := { s.boot with phase := .running } }.startOutputs.startRound).choose

/-- The Clear step and the entry into RUNNING (R169). -/
def State.startUp (s : State) (cause : RestartCause) (config : Bool) : State :=
  (s.clearAll.announceRestart cause config).run

/-! ## Hard resets (R167) -/

/-- A memory in which an image write did not end well: the bytes the write covers are free, but a partial image fails
at the next load (R171, assumption log 9). -/
def State.spoilMemory (s : State) (image : List Byte) : State :=
  { s with
    memory := spoiltMemory s.memory image ((List.range image.length).map (Config.partialByte s.freeCount))
    freeCount := s.freeCount + 1 }

/-- A write in progress abandoned by a reset or a loss of the supply (R171). -/
def State.abandonSave (s : State) : State :=
  match s.boot.save, s.boot.saveCopy with
  | .writing, some copy => s.spoilMemory copy.image
  | _, _ => s

/-- The start of a hard reset, and what the loss of the supply leaves (R14, R15, R17, R155, R167, R171): everything
in flight is abandoned, the pilot at rest, the emergency zone set empty, the filtered EVAC state RELEASED, the save
status IDLE, and each port's receiver hunting. -/
def State.hardStop (s : State) : State :=
  let s1 := s.abandonSave.stopAll
  { s1 with
    boot := { s1.boot with image := .none, save := .idle, saveCopy := none }
    zones := 0
    evac := { s1.evac with since := none, filtered := false }
    pilotOn := false
    link :=
      { s1.link with
        portA := { s1.link.portA with inFrame := false }
        portB := { s1.link.portB with inFrame := false } } }

/-- POWER_ON: the supply rises and a hard reset with cause POWER begins (R167). -/
def execPowerOn (s : State) : Host.Outcome State Fault Refusal :=
  .next { s.hardStop with power := .inReset .power }

/-- The cause of a hard reset begun by the RESET pin: while the supply is rising it stays POWER (R167). -/
def pinResetPower : Power → Power
  | .unpowered => .unpowered
  | .inReset cause => .inReset cause
  | .released _ => .inReset .pin

/-- PIN_RESET: the RESET pin driven low begins a hard reset with cause PIN (R167). Without a supply nothing
happens. -/
def execPinReset (s : State) : Host.Outcome State Fault Refusal :=
  .next (if s.power = .unpowered then s else { s.hardStop with power := pinResetPower s.power })

/-- POWER_LOSS: the supply is lost; an image write in progress is abandoned (R171). -/
def execPowerLoss (s : State) : Host.Outcome State Fault Refusal :=
  .next { s.hardStop with power := .unpowered }

/-! ## The release of reset (R167) -/

/-- The unit address of a strap value: 0 and 63 give 62 (R156). -/
def unitOfStraps (x : BitVec 6) : Nat := if x.toNat = 0 ∨ x.toNat = 63 then 62 else x.toNat

/-- The straps read at the release of reset (R155, R167): a strap tied high reads 1. -/
def readStraps (addr : BitVec 6) (baud source : Bool) : Straps where
  unit := unitOfStraps addr
  baud := if baud then .b115200 else .b57600
  source := if source then .image else .defaults

/-- The stored settings put in place, and PGEN started with the D now in force (R17, R167, R168). -/
def State.settle (s : State) (image : ImageStatus) (cfg : Settings) : State :=
  { s with boot := { s.boot with image := image }, cfg := cfg, pilotOn := true }

/-- BOOT at the release of reset: the straps read, the EVAC filter started; under DEFAULTS the default settings and
the Clear step, under IMAGE the Load step (R15, R167). -/
def State.release (s : State) (cause : RestartCause) (straps : Straps) : State :=
  let s1 : State :=
    { s with
      power := .released cause
      straps := straps
      evac := { s.evac with since := some s.clock, filtered := false } }
  match straps.source with
  | .defaults => (s1.settle .none Settings.default).startUp cause false
  | .image => { s1 with boot := { s1.boot with image := .loading } }

/-- RESET_RELEASE (R167). Outside a hard reset there is nothing to release. -/
def execResetRelease (addr : BitVec 6) (baud source : Bool) (s : State) : Host.Outcome State Fault Refusal :=
  .next
    (match s.power with
    | .inReset cause => s.release cause (readStraps addr baud source)
    | .unpowered => s
    | .released _ => s)

/-! ## The Load step (R168) -/

/-- The outcome of the Load step: the image whole, or the defaults with the image status FAILED and CONFIG
(R129, R168). -/
def State.finishLoad (s : State) (cause : RestartCause) (loaded : Option Settings) : State :=
  match loaded with
  | some cfg => (s.settle .loaded cfg).startUp cause false
  | none => (s.settle .failed Settings.default).startUp cause true

/-- LOAD_STEP_END (R168), while a Load step is in progress. -/
def execLoadStepEnd (ack : Bool) (s : State) : Host.Outcome State Fault Refusal :=
  .next
    (match s.power, s.boot.image with
    | .released cause, .loading => s.finishLoad cause (if ack then loadImage s.memory else none)
    | _, _ => s)

/-! ## The soft restart (R170) -/

/-- What a RESTART accepted now would keep (R1, R75, R79, R129). -/
def State.restartCopy (s : State) : RestartCopy where
  settings := s.cfg
  config := decide ((s.cond (.dev .config)).state = .active)

/-- A frame held by the port is an accepted RESTART whose reply has not been sent (R170). -/
def PortState.restartHeld (x : PortState) : Bool := x.held.any fun h => h.restarts.isSome

/-- An accepted RESTART awaits the start of its soft restart (R170, R171). -/
def State.restartAwaited (s : State) : Bool :=
  s.boot.restartDue.isSome || s.link.portA.restartHeld || s.link.portB.restartHeld

/-- The settings in force `now` after a soft restart whose RESTART was accepted with the settings `kept`: the tables,
the ring, its form and the scan settings, and the earth settings are those of the acceptance (R1, R75, R79); D, the
output settings and the groups run on (R17, R149, R160; assumption log 7). -/
def Settings.restored (now kept : Settings) : Settings :=
  { kept with pilotD := now.pilotD, outA := now.outA, outB := now.outB, groups := now.groups }

/-- The soft restart: everything in flight abandoned, then the Clear step at once, CONFIG ACTIVE again if it was at the
acceptance (R129, R170). DESIGN CHOICE, assumption log 7: the emergency zone set, which Table 1.1 lists among the tables and
of which R1 says only that a soft restart keeps it, is the one in force when the soft restart begins. -/
def State.softRestart (s : State) (k : RestartCopy) : State :=
  { s.stopAll with cfg := s.cfg.restored k.settings }.startUp .command k.config

/-- SOFT_RESTART (R170): only once the reply to an accepted RESTART has been sent. -/
def execSoftRestart (s : State) : Host.Outcome State Fault Refusal :=
  .next
    (match s.boot.restartDue with
    | some k => s.softRestart k
    | none => s)

/-! ## The end of an image write (R171) -/

/-- The write ended well: the memory holds the image, the save status is DONE and CONFIG leaves ACTIVE (R129,
R171). -/
def State.saveDone (s : State) (image : List Byte) : State :=
  let s1 : State :=
    { s with
      memory := writeBytes s.memory 0 image
      boot := { s.boot with save := .done, saveCopy := none } }
  if (s.cond (.dev .config)).state = .active then s1.moveCond (.dev .config) .clear none none false else s1

/-- The write did not end well: the save status is FAILED, the memory may hold a partial image, and CONFIG is
unchanged (R171). -/
def State.saveFailed (s : State) (image : List Byte) : State :=
  let s1 := s.spoilMemory image
  { s1 with boot := { s1.boot with save := .failed, saveCopy := none } }

/-- IMAGE_WRITE_END (R171): BOOT compares what it reads back with the copy. -/
def execImageWriteEnd (ack : Bool) (readBack : List Byte) (s : State) : Host.Outcome State Fault Refusal :=
  .next
    (match s.boot.save, s.boot.saveCopy with
    | .writing, some copy =>
      if ack = true ∧ readBack = copy.image then s.saveDone copy.image else s.saveFailed copy.image
    | _, _ => s)

end Sys2Proof.Machine
end

