-- ==== Sys2Proof/Machine/Link.lean ====
section
/-! DEFINITION. LINK: what a port hears, whom a frame addresses, the held frame and its reply (R155 to R159). -/

namespace Sys2Proof.Machine

/-- A port's driver is enabled only while the part sends a reply on it (R155). -/
def PortState.driverOn (x : PortState) : Bool :=
  match x.held with
  | some h => h.sending
  | none => false

/-- The part is powered and its reset is released. -/
def State.poweredUp (s : State) : Bool :=
  match s.power with
  | .released _ => true
  | .inReset _ => false
  | .unpowered => false

/-- A port's receiver hears the bus: the part is out of hard reset, and the port sends no reply (R155, R167). -/
def State.hears (s : State) (p : Port) : Bool := s.poweredUp && !(s.port p).driverOn

/-- The receiver returns to hunting (R155). -/
def State.hunt (s : State) (p : Port) : State := s.setPort p { s.port p with inFrame := false }

/-- The port's dropped-frame count goes up by 1 and stops at 255; the receiver is hunting (R155, R157). -/
def State.dropFrame (s : State) (p : Port) : State :=
  s.setPort p { s.port p with inFrame := false, dropped := min 255 ((s.port p).dropped + 1) }

/-- The five kinds a group or broadcast frame may have: CLEAR-LATCH, EMERGENCY, FREEZE, UNFREEZE, RESTART
(R156). -/
def multicastKind (kind : Byte) : Bool :=
  decide (kind = 0x44) || decide (kind = 0x46) || decide (kind = 0x47) || decide (kind = 0x48) || decide (kind = 0x4A)

/-- What the address byte of a frame that passes its checks makes of it (R156). -/
inductive Delivery where
  /-- Addressed to this part alone: acted on and answered. -/
  | unit
  /-- Sent to a group of this part's or broadcast, of one of the five kinds: acted on, not answered. -/
  | multi
  /-- Ignored. -/
  | ignored
  deriving DecidableEq, Repr

/-- A frame is sent to the broadcast address or to a group the part belongs to (R156). -/
def State.multicastAddress (s : State) (dest : Byte) : Bool :=
  decide (dest = 0x00) || (isGroupAddress dest && s.cfg.groups.contains dest)

/-- How a frame is delivered (R156): in STARTING every group and broadcast frame is ignored. -/
def State.delivery (s : State) (dest kind : Byte) : Delivery :=
  if dest.toNat = s.straps.unit then .unit
  else if s.multicastAddress dest = true ∧ multicastKind kind = true ∧ s.boot.phase = .running then .multi
  else .ignored

/-- What the owner of a request answers: the status, the content, and what a soft restart that follows the reply
keeps. -/
structure Answer where
  status : Status
  content : Content
  restarts : Option RestartCopy
  deriving DecidableEq, Repr

/-- A reply without content (R158). -/
def Answer.bare (st : Status) : Answer := { status := st, content := .empty, restarts := none }

/-- A reply with content. -/
def Answer.full (st : Status) (c : Content) : Answer := { status := st, content := c, restarts := none }

/-- DONE, or CLAMPED where a field was replaced by a limit (R2). -/
def doneOr (clamped : Bool) : Status := if clamped then .clamped else .done

/-- The kinds whose replies are served from the frozen view: READ-LINE, READ-AMP, READ-DEVICE, READ-SUMMARY
(R158, R164). -/
def frozenKind (kind : Byte) : Bool :=
  decide (kind = 0x04) || decide (kind = 0x05) || decide (kind = 0x06) || decide (kind = 0x07)

/-- The view byte (R158). -/
def State.viewFor (s : State) (kind : Byte) : View :=
  if frozenKind kind && s.link.frozen.isSome then .frozen else .live

/-- The port holds the frame just taken, with the reply formed for it (R157, R158). -/
def State.holdFrame (s : State) (p : Port) (kind : Byte) (view : View) (a : Answer) : State :=
  s.setPort p
    { s.port p with
      held := some
        { kind := kind
          reply := { status := a.status, view := view, content := a.content }
          takenAt := s.clock
          sending := false
          restarts := a.restarts } }

/-- IDENTIFY's kind byte. -/
def identifyKind : Byte := 0x01

/-- A unit-addressed frame is taken: STARTING for every kind but IDENTIFY in that phase, else its owner acts; the
port then holds the frame with its reply (R157, R158). -/
def State.takeUnit (s : State) (p : Port) (kind : Byte) (act : State → State × Answer) : State :=
  if s.boot.phase = .starting ∧ kind ≠ identifyKind then s.holdFrame p kind .live (.bare .starting)
  else
    let r := act s
    r.1.holdFrame p kind (s.viewFor kind) r.2

/-- The arrival of a whole frame that passes its CRC (R155 to R158): heard or not, its length checked, delivered by
its address, dropped as a receive overrun when the port already holds a frame, and otherwise taken. `multi` is what
the request does when it is sent to a group or broadcast. -/
def State.deliver (s : State) (p : Port) (dest kind : Byte) (payload : List Byte) (unit : State → State × Answer)
    (multi : State → State) : State :=
  if s.hears p then
    if 200 < payload.length then s.dropFrame p
    else
      match s.delivery dest kind with
      | .ignored => s.hunt p
      | .unit => if (s.port p).held.isSome then s.dropFrame p else (s.hunt p).takeUnit p kind unit
      | .multi => if (s.port p).held.isSome then s.dropFrame p else multi (s.hunt p)
  else s

/-- The arrival of a request that a group or broadcast frame cannot carry (R156). -/
def State.deliverUnit (s : State) (p : Port) (dest kind : Byte) (payload : List Byte)
    (unit : State → State × Answer) : State :=
  s.deliver p dest kind payload unit id

/-- The arrival of a request that acts the same way however it is addressed (R156). -/
def State.deliverAny (s : State) (p : Port) (dest kind : Byte) (payload : List Byte)
    (unit : State → State × Answer) : State :=
  s.deliver p dest kind payload unit fun s => (unit s).1

/-- The change counter after an accepted setting request: from 255 it goes to 1 (R159). -/
def nextCounter (c : Nat) : Nat := if 255 ≤ c then 1 else c + 1

/-- The change counter advances (R2, R159). -/
def State.bumpCounter (s : State) : State :=
  { s with link := { s.link with changeCounter := nextCounter s.link.changeCounter } }

end Sys2Proof.Machine
end

