-- ==== Sys2Proof/Machine/Reads.lean ====
section
/-! DEFINITION. The requests that read: IDENTIFY, STATUS, POLL and the READ requests (R172, R162, R147, R163, R105,
R130, R161, R76, R154). Each meaning is the arrival of the request's whole frame on a port. -/

namespace Sys2Proof.Machine

/-- The answer of every command: a next state. -/
abbrev Result := Host.Outcome State Fault Refusal

/-- A request with no payload: its structure is an empty payload (R161). -/
def noPayload (payload : List Byte) (s : State) (act : State → State × Answer) : State × Answer :=
  if payload = [] then act s else (s, .bare .refusedArg)

/-- A request whose payload must parse: REFUSED-ARG otherwise, with nothing changed (R2, R161). -/
def parsed {α : Type} (x : Option α) (s : State) (act : α → State → State × Answer) : State × Answer :=
  match x with
  | some y => act y s
  | none => (s, .bare .refusedArg)

/-- A read: it answers and changes nothing. -/
def reading (c : State → Content) (s : State) : State × Answer := (s, .full .done (c s))

/-! ## IDENTIFY (R172) -/

/-- The items of an IDENTIFY reply (R172). -/
def identifyContent (s : State) : Content :=
  .identity 0x4A5A 2408 3 s.straps.unit s.straps.source s.boot.image

/-- IDENTIFY, answered in full in either phase (R158, R172). -/
def execIdentify (p : Port) (dest : Byte) (payload : List Byte) (s : State) : Result :=
  .next (s.deliverUnit p dest identifyKind payload fun s => noPayload payload s (reading identifyContent))

/-! ## STATUS (R162) -/

/-- The time left on the freeze timer in 0.1 s, rounded up (R162). DESIGN CHOICE, assumption log 20: it is absent where no
view is in force. -/
def State.freezeTimeLeft (s : State) : Option Nat :=
  s.link.frozen.map fun f => (f.deadline - s.clock + (Config.ticksPerTenth - 1)) / Config.ticksPerTenth

/-- The items of a STATUS reply (R162). -/
def statusReport (s : State) : StatusReport where
  phase := s.boot.phase
  save := s.boot.save
  changeCounter := s.link.changeCounter
  entries := s.nq.entries.length
  overflow := s.nq.overflow
  droppedA := s.link.portA.dropped
  droppedB := s.link.portB.dropped
  frozen := s.link.frozen.isSome
  timeLeft := s.freezeTimeLeft
  freezeExpired := s.link.freezeExpired
  zones := s.zones
  evac := s.evac.filtered
  ref := (s.cond (.dev .ref)).state
  bridge := (s.cond (.dev .bridge)).state
  config := (s.cond (.dev .config)).state

/-- What the forming of a STATUS reply clears: the overflow indicator, both dropped-frame counts and the
freeze-expired indicator (R146, R162). -/
def State.clearStatusItems (s : State) : State :=
  { s with
    nq := { s.nq with overflow := false }
    link :=
      { s.link with
        portA := { s.link.portA with dropped := 0 }
        portB := { s.link.portB with dropped := 0 }
        freezeExpired := false } }

/-- STATUS (R162). -/
def execStatus (p : Port) (dest : Byte) (payload : List Byte) (s : State) : Result :=
  .next (s.deliverUnit p dest 0x02 payload fun s =>
    noPayload payload s fun s => (s.clearStatusItems, .full .done (.status (statusReport s))))

/-! ## POLL (R147) -/

/-- POLL with a minimum level: the best entry delivered and removed, or EMPTY (R147). -/
def pollAct (minimum : Level) (s : State) : State × Answer :=
  match s.nq.best minimum with
  | some n =>
    let q := s.nq.take n
    ({ s with nq := q }, .full .done (.pollEntry q.entries.length n))
  | none => (s, .full .done (.pollEmpty s.nq.entries.length))

/-- POLL (R147). -/
def execPoll (p : Port) (dest : Byte) (payload : List Byte) (s : State) : Result :=
  .next (s.deliverUnit p dest 0x03 payload fun s => parsed (parsePoll payload) s pollAct)

/-! ## READ-LINE, READ-AMP, READ-DEVICE, READ-SUMMARY (R163, R105, R130): from the frozen view while in force -/

/-- The records a read is served from: the frozen copy while the view is in force, else the live ones (R164). -/
def State.served (s : State) : Records :=
  match s.link.frozen with
  | some f => f.view
  | none => s.recs

/-- The items of a READ-LINE reply (R163, R130, R142). -/
def lineReport (s : State) (l : LineId) : LineReport where
  entry := s.line l
  emergency := s.lineInEmergency l
  result := s.served.lineRes[l]
  earth := s.served.earthRes[l]
  minMax := s.served.minMax[l]
  conds := s.served.lineConds[l]
  maskedRun := s.served.maskedRun[l]
  learning := s.learn[l]

/-- READ-LINE (R161, R163). -/
def execReadLine (p : Port) (dest : Byte) (payload : List Byte) (s : State) : Result :=
  .next (s.deliverUnit p dest 0x04 payload fun s =>
    parsed (oneByteSelector payload 24) s fun l => reading fun s => .line (lineReport s l))

/-- A line is suppressed when the amplifier's NOPILOT is ACTIVE and the line is not OFF (R105). -/
def State.shownSuppressed (s : State) (a : AmpId) (l : LineId) : Bool :=
  s.noPilot a && decide ((s.line l).state ≠ .off)

/-- The items of a READ-AMP reply (R105). DESIGN CHOICE, assumption log 21: the lines it feeds ascending. -/
def ampReport (s : State) (a : AmpId) : AmpReport where
  entry := s.amp a
  result := s.served.ampRes[a]
  conds := s.served.ampConds[a]
  firstCount := s.firstCount[a]
  emergency := s.ampInEmergency a
  fed := (allLines.filter fun l => decide ((s.line l).amp = a)).map fun l => (l, s.shownSuppressed a l)

/-- READ-AMP (R105, R161). -/
def execReadAmp (p : Port) (dest : Byte) (payload : List Byte) (s : State) : Result :=
  .next (s.deliverUnit p dest 0x05 payload fun s =>
    parsed (oneByteSelector payload 8) s fun a => reading fun s => .amp (ampReport s a))

/-- LCONV's state: SETTLING until the S-th settle block has ended (Table 2.3). -/
def lconvState : Option Meas → LconvState
  | none => .idle
  | some m => if m.settled < m.settle then .settling else .sampling

/-- What READ-DEVICE tells of the measurement in flight (R37). -/
def measReport (m : Meas) : MeasReport where
  subject := m.subject
  settle := m.settle
  sample := m.sample
  blocksEnded := m.settled + m.sampled
  v := m.v

/-- EBRG's state by name (Table 5.1). -/
def EbrgMode.name : EbrgMode → EbrgState
  | .idle => .idle
  | .waiting _ => .waiting
  | .soaking _ => .soaking
  | .measuring _ => .measuring

/-- What READ-DEVICE tells of an earth test (R92). DESIGN CHOICE, assumption log 18: the time elapsed since the bias was
applied is cut down to whole milliseconds. -/
def testReport (t : EarthTest) (now : Nat) : TestReport where
  soakMs := t.soak.ms
  ne := t.ne
  elapsedMs := (now - t.biasOn) / Config.ticksPerMs
  blocks := t.blocks

/-- The earth test in flight (R78). -/
def EbrgMode.test : EbrgMode → Option EarthTest
  | .idle => none
  | .waiting _ => none
  | .soaking t => some t
  | .measuring t => some t

/-- The items of a READ-DEVICE reply (R37, R92, R130, R163). -/
def deviceReport (s : State) : DeviceReport where
  lconv := lconvState s.lconv
  meas := s.lconv.map measReport
  pilotD := s.cfg.pilotD
  pilotHz := (Config.refHz, s.cfg.pilotD)
  refRes := s.served.refRes
  earth := s.cfg.earth
  ebrg := s.ebrg.mode.name
  chosen := s.ebrg.mode.chosen
  test := s.ebrg.mode.test.map fun t => testReport t s.clock
  walk := s.ebrg.walk
  lastBias := s.ebrg.lastBias
  conds := s.served.devConds
  wide := s.cfg.wide
  levels := s.cfg.levels
  groups := s.cfg.groups

/-- READ-DEVICE (R37, R92, R163). -/
def execReadDevice (p : Port) (dest : Byte) (payload : List Byte) (s : State) : Result :=
  .next (s.deliverUnit p dest 0x06 payload fun s =>
    noPayload payload s (reading fun s => .device (deviceReport s)))

/-- A set of condition kinds as Table 10.5 codes it: bit n for kind code n. -/
def kindBits (ids : List CondId) : BitVec 16 :=
  ids.foldl (fun x id => x ||| BitVec.twoPow 16 id.kind.code) 0

/-- A READ-SUMMARY entry (R130, Table 10.5). -/
def summaryEntry (s : State) (x : Subject) : SummaryEntry where
  subject := x
  state := s.subjState x
  active := kindBits ((condsOf x).filter fun id => decide ((s.served.cond id).state = .active))
  latched := kindBits ((condsOf x).filter fun id => (s.served.cond id).latch)

/-- The 33 entries of a READ-SUMMARY reply (Table 10.5). -/
def summaryEntries (s : State) : List SummaryEntry := allSubjects.map (summaryEntry s)

/-- READ-SUMMARY (R130). -/
def execReadSummary (p : Port) (dest : Byte) (payload : List Byte) (s : State) : Result :=
  .next (s.deliverUnit p dest 0x07 payload fun s =>
    noPayload payload s (reading fun s => .summary (summaryEntries s)))

/-! ## READ-PROFILE, READ-SCAN, READ-OUTPUTS: always live (R164) -/

/-- READ-PROFILE (R161). -/
def execReadProfile (p : Port) (dest : Byte) (payload : List Byte) (s : State) : Result :=
  .next (s.deliverUnit p dest 0x08 payload fun s =>
    parsed (oneByteSelector payload 4) s fun i => reading fun s => .profile s.cfg.profiles[i])

/-- The items of a READ-SCAN reply (R76). DESIGN CHOICE, assumption log 18: the time elapsed since the round start is cut
down to whole milliseconds. -/
def scanReport (s : State) : ScanReport where
  form := s.cfg.form
  ring := s.cfg.ring
  rebuildPending := s.seq.rebuildPending
  pointer := s.seq.pointer
  skips := s.seq.skips
  state := s.seq.state
  round := s.seq.round
  elapsedMs := (s.clock - s.seq.roundStart) / Config.ticksPerMs
  periodInUse := s.seq.periodInUse
  scan := s.cfg.scan
  sampleBlocks := sampleBlocks s.cfg.scan.accum
  confirm := s.seq.confirm.map fun e => (e, s.eligible e)
  credit := s.seq.credit
  stats := s.seq.stats

/-- READ-SCAN (R76). -/
def execReadScan (p : Port) (dest : Byte) (payload : List Byte) (s : State) : Result :=
  .next (s.deliverUnit p dest 0x09 payload fun s => noPayload payload s (reading fun s => .scan (scanReport s)))

/-- One output of a READ-OUTPUTS reply (R154). -/
def outputReport (s : State) (o : OutputId) : OutputReport where
  settings := s.cfg.out o
  state := (s.fout.get o).state
  unhealthy := (s.fout.get o).unhealthy
  drive := (s.fout.get o).drive (s.cfg.out o)
  offenders := if (s.fout.get o).unhealthy then s.offenders (s.cfg.out o) else []

/-- READ-OUTPUTS (R154). -/
def execReadOutputs (p : Port) (dest : Byte) (payload : List Byte) (s : State) : Result :=
  .next (s.deliverUnit p dest 0x0A payload fun s =>
    noPayload payload s (reading fun s => .outputs (outputReport s .fltA) (outputReport s .fltB)))

/-! ## Unknown kinds (R158) -/

/-- A frame whose kind names no request is answered UNKNOWN-KIND. A kind byte that Table 10.6 names spells that
request's own command and not this one (assumption log 10). -/
def execUnknownKind (p : Port) (dest : Byte) (kind : Byte) (payload : List Byte) (s : State) : Result :=
  .next (if kindNamed kind then s else s.deliverUnit p dest kind payload fun s => (s, .bare .unknownKind))

end Sys2Proof.Machine
end

