-- ==== Sys2Proof/Machine/Actions.lean ====
section
/-! DEFINITION. The actions: LEARN, ABORT-LEARN, TEST-INJECT, CLEAR-LATCH, CLEAR-MINMAX, EMERGENCY, FREEZE,
UNFREEZE, SAVE-IMAGE and RESTART (Chapters 1, 3, 7, 8, 10, 11). None advances the change counter (R159). -/

namespace Sys2Proof.Machine

/-! ## LEARN (R132) and ABORT-LEARN (R139) -/

/-- LEARN's decision: REFUSED-STATE for an OFF line, REFUSED-BUSY for a learning one, else a new record and the
emptying of HIGHZ and LOWZ (R132). -/
def learnAct (c : LineId × Nat × Bool) (s : State) : State × Answer :=
  let l := c.1
  if (s.line l).state = .off then (s, .bare .refusedState)
  else if s.learn[l].isSome then (s, .bare .refusedBusy)
  else
    ((s.setLearn l (some (LearnRec.start c.2.1))).emptyRef l,
      .full (doneOr c.2.2) (.learn l c.2.1 (s.line l).zref))

/-- LEARN (R132). -/
def execLearn (p : Port) (dest : Byte) (payload : List Byte) (s : State) : Result :=
  .next (s.deliverUnit p dest 0x41 payload fun s => parsed (parseLearn payload) s learnAct)

/-- ABORT-LEARN's decision (R139). -/
def abortLearnAct (l : LineId) (s : State) : State × Answer :=
  if s.learn[l].isNone then (s, .bare .refusedState)
  else (s.failLearning l .aborted, .full .done (.abortLearn l (s.line l).zref))

/-- ABORT-LEARN (R139). -/
def execAbortLearn (p : Port) (dest : Byte) (payload : List Byte) (s : State) : Result :=
  .next (s.deliverUnit p dest 0x42 payload fun s => parsed (parseAbortLearn payload) s abortLearnAct)

/-! ## TEST-INJECT (R126) -/

/-- Any injection pending on a subject removed (R126). -/
def State.dropInjections (s : State) (x : Subject) : State :=
  (condsOf x).foldl (fun s id => s.setCond id { s.cond id with injection := none }) s

/-- The largest injection count (R126). -/
def maxInjection : Nat := 16

/-- An accepted TEST-INJECT: the subject's injection removed, then the named condition's set unless the count is 0
(R126). -/
def applyInject (c : Injection) (s : State) : State :=
  let s1 := s.dropInjections c.subject
  if c.count = 0 then s1 else s1.setCond c.cond { s1.cond c.cond with injection := some (min maxInjection c.count) }

/-- TEST-INJECT's decision: REFUSED-STATE for a subject that is OFF (R126). -/
def testInjectAct (c : Injection) (s : State) : State × Answer :=
  if s.isOff c.subject then (s, .bare .refusedState)
  else
    (applyInject c s,
      .full (doneOr (decide (maxInjection < c.count)))
        (.injection c.subject (if c.count = 0 then none else some (c.cond, min maxInjection c.count))))

/-- TEST-INJECT (R126). -/
def execTestInject (p : Port) (dest : Byte) (payload : List Byte) (s : State) : Result :=
  .next (s.deliverUnit p dest 0x43 payload fun s => parsed (parseTestInject payload) s testInjectAct)

/-! ## CLEAR-LATCH (R122) -/

/-- The latches of a list of subjects cleared where the condition is not ACTIVE, and FOUT told (R121, R122). -/
def applyClearLatch (xs : List Subject) (s : State) : State :=
  ((xs.flatMap condsOf).foldl State.clearLatch s).reevalOutputs

/-- The conditions of a subject whose latches are set (R122). -/
def State.latchesSet (s : State) (x : Subject) : List Kind :=
  ((condsOf x).filter fun id => (s.cond id).latch).map CondId.kind

/-- CLEAR-LATCH's decision (R122). DESIGN CHOICE, assumption log 21: the reply lists lines, then amplifiers, then DEV, each
with its latches in the order of Table 7.1. -/
def clearLatchAct (xs : List Subject) (s : State) : State × Answer :=
  let s1 := applyClearLatch xs s
  (s1, .full .done (.latches (xs.map fun x => (x, s1.latchesSet x))))

/-- CLEAR-LATCH (R122). -/
def execClearLatch (p : Port) (dest : Byte) (payload : List Byte) (s : State) : Result :=
  .next (s.deliverAny p dest 0x44 payload fun s => parsed (parseClearLatch payload) s clearLatchAct)

/-! ## CLEAR-MINMAX (R56) -/

/-- The figures of a line at their clear values (R55). -/
def State.clearMinMax (s : State) (l : LineId) : State :=
  { s with recs := { s.recs with minMax := s.recs.minMax.set l MinMax.cleared } }

/-- CLEAR-MINMAX's decision (R56). -/
def clearMinmaxAct (ls : List LineId) (s : State) : State × Answer :=
  (ls.foldl State.clearMinMax s, .bare .done)

/-- CLEAR-MINMAX (R56). -/
def execClearMinmax (p : Port) (dest : Byte) (payload : List Byte) (s : State) : Result :=
  .next (s.deliverUnit p dest 0x45 payload fun s => parsed (parseClearMinmax payload) s clearMinmaxAct)

/-! ## EMERGENCY (R14) -/

/-- The emergency zone set replaced, the memberships re-derived (R14, R16). -/
def applyEmergency (zones : BitVec 16) (s : State) : State :=
  ({ s with zones := zones }.announceEntries s).reevalOutputs

/-- EMERGENCY's decision (R14). -/
def emergencyAct (zones : BitVec 16) (s : State) : State × Answer :=
  (applyEmergency zones s, .full .done (.emergency zones s.evac.filtered))

/-- EMERGENCY (R14). -/
def execEmergency (p : Port) (dest : Byte) (payload : List Byte) (s : State) : Result :=
  .next (s.deliverAny p dest 0x46 payload fun s => parsed (parseEmergency payload) s emergencyAct)

/-! ## FREEZE (R164) and UNFREEZE (R165) -/

/-- The copy taken and the freeze timer started from the full freeze time (R164). -/
def State.takeFreeze (s : State) : State :=
  { s with
    link :=
      { s.link with
        frozen := some { view := s.recs, deadline := s.clock + s.cfg.scan.freezeTime * Config.ticksPerTenth } } }

/-- The view released and the timer stopped (R165). -/
def State.releaseView (s : State) : State := { s with link := { s.link with frozen := none } }

/-- FREEZE's decision (R164). -/
def freezeAct (s : State) : State × Answer := (s.takeFreeze, .full .done (.freezeTime s.cfg.scan.freezeTime))

/-- FREEZE (R164). -/
def execFreeze (p : Port) (dest : Byte) (payload : List Byte) (s : State) : Result :=
  .next (s.deliverAny p dest 0x47 payload fun s => noPayload payload s freezeAct)

/-- UNFREEZE's decision (R165). -/
def unfreezeAct (s : State) : State × Answer := (s.releaseView, .bare .done)

/-- UNFREEZE (R165). -/
def execUnfreeze (p : Port) (dest : Byte) (payload : List Byte) (s : State) : Result :=
  .next (s.deliverAny p dest 0x48 payload fun s => noPayload payload s unfreezeAct)

/-! ## SAVE-IMAGE (R171) -/

/-- The copy of the stored settings taken and its write begun (R171). -/
def State.beginSave (s : State) : State :=
  { s with boot := { s.boot with save := .writing, saveCopy := some s.cfg } }

/-- SAVE-IMAGE's decision (R171). -/
def saveImageAct (s : State) : State × Answer :=
  if s.boot.save = .writing ∨ s.restartAwaited = true then (s, .bare .refusedBusy)
  else (s.beginSave, .full .done (.saveStatus .writing))

/-- SAVE-IMAGE (R171). -/
def execSaveImage (p : Port) (dest : Byte) (payload : List Byte) (s : State) : Result :=
  .next (s.deliverUnit p dest 0x49 payload fun s => noPayload payload s saveImageAct)

/-! ## RESTART (R170) -/

/-- A unit-addressed RESTART: refused while a save is writing; otherwise DONE, and the soft restart begins when the
last byte of that reply has been sent (R170). -/
def restartUnitAct (s : State) : State × Answer :=
  if s.boot.save = .writing then (s, .bare .refusedBusy)
  else (s, { status := .done, content := .empty, restarts := some s.restartCopy })

/-- A group or broadcast RESTART: ignored while a save is writing, or with a payload; otherwise the soft restart begins
at the instant the frame is taken (R170). -/
def restartMultiAct (payload : List Byte) (s : State) : State :=
  if payload = [] ∧ s.boot.save ≠ .writing then s.softRestart s.restartCopy else s

/-- RESTART (R170). -/
def execRestart (p : Port) (dest : Byte) (payload : List Byte) (s : State) : Result :=
  .next
    (s.deliver p dest 0x4A payload (fun s => noPayload payload s restartUnitAct) (restartMultiAct payload))

end Sys2Proof.Machine
end

