-- ==== Sys2Proof/Machine/Events.lean ====
section
/-! DEFINITION. The events: the ports' receivers and replies, the EVAC input, the blocks and counters of LCONV, the
soak and leakage blocks of EBRG, and the timers (Chapters 1, 2, 4, 5, 9 and 10).

An event that the part's state has no place for (a block end with nothing in flight, an expiry of a timer that does
not run) changes nothing; a timed event moves the clock up to its instant (assumption logs 2 and 10). -/

namespace Sys2Proof.Machine

/-! ## Receivers (R155, R156, R157) -/

/-- FRAME_DROPPED: a frame with a length byte above 200 or a mismatching CRC is dropped and counted (R155). -/
def execFrameDropped (p : Port) (_why : DropReason) (s : State) : Host.Outcome State Fault Refusal :=
  .next (if s.hears p then s.dropFrame p else s)

/-- FRAME_GAP_TIMEOUT: a gap of more than 2 byte-times inside a frame drops it (R155). A receiver made deaf by the
port's own reply still times the gap. -/
def execFrameGapTimeout (p : Port) (s : State) : Host.Outcome State Fault Refusal :=
  .next (if s.poweredUp = true ∧ (s.port p).inFrame = true then s.dropFrame p else s)

/-- RECEIVE_OVERRUN: a frame for this part that passes its checks while the port already holds one is dropped and
counted (R157). -/
def execReceiveOverrun (p : Port) (dest : Byte) (kind : Byte) (s : State) : Host.Outcome State Fault Refusal :=
  .next
    (if s.hears p = true ∧ (s.port p).held.isSome = true ∧ s.delivery dest kind ≠ .ignored then s.dropFrame p else s)

/-- FRAME_START: a 0xC3 heard by a hunting receiver starts a frame (R155). -/
def execFrameStart (p : Port) (s : State) : Host.Outcome State Fault Refusal :=
  .next (if s.hears p then s.setPort p { s.port p with inFrame := true } else s)

/-- FRAME_IGNORED: a frame that passes its checks and is not for this part leaves the receiver hunting and changes
nothing else (R156). -/
def execFrameIgnored (p : Port) (dest : Byte) (kind : Byte) (s : State) : Host.Outcome State Fault Refusal :=
  .next (if s.hears p = true ∧ s.delivery dest kind = .ignored then s.hunt p else s)

/-! ## Replies (R157, R170) -/

/-- A held frame whose reply is being sent (R155, R157). -/
def HeldFrame.begin (h : HeldFrame) : HeldFrame := { h with sending := true }

/-- REPLY_BEGIN: no sooner than 0.5 ms after the request, the port's driver is enabled (R155, R157). -/
def execReplyBegin (p : Port) (s : State) : Host.Outcome State Fault Refusal :=
  .next
    (match (s.port p).held with
    | some h =>
      if h.sending then s
      else (s.waitUntil (h.takenAt + Config.replyDelayTicks)).setPort p { s.port p with held := some h.begin }
    | none => s)

/-- The soft restart that is due once a held frame is released: the one that waited for this reply, unless one is due
already (R170). -/
def Boot.dueAfter (b : Boot) (h : HeldFrame) : Option RestartCopy :=
  match b.restartDue with
  | some k => some k
  | none => h.restarts

/-- The port releases its held frame; a soft restart that waited for this reply is due (R157, R170). -/
def State.releaseHeld (s : State) (p : Port) (h : HeldFrame) : State :=
  { s with boot := { s.boot with restartDue := s.boot.dueAfter h } }.setPort p { s.port p with held := none }

/-- REPLY_SENT: the last byte of a reply is sent (R157). -/
def execReplySent (p : Port) (s : State) : Host.Outcome State Fault Refusal :=
  .next
    (match (s.port p).held with
    | some h => s.releaseHeld p h
    | none => s)

/-! ## EVAC (R15, R16) -/

/-- EVAC_PIN_CHANGE: a change of level restarts the filter interval; before the release of reset the filter does not
run (R15). -/
def execEvacPinChange (low : Bool) (s : State) : Host.Outcome State Fault Refusal :=
  .next
    (if s.evac.pinLow = low then s
    else { s with evac := { s.evac with pinLow := low, since := if s.poweredUp then some s.clock else none } })

/-- The filtered EVAC state takes the pin's level; a change re-derives the memberships (R15, R16, R124). -/
def State.filterEvac (s : State) : State :=
  ({ s with evac := { s.evac with since := none, filtered := s.evac.pinLow } }.announceEntries s).reevalOutputs

/-- EVAC_FILTER_EXPIRY: the pin has held its level for 20 ms (R15). -/
def execEvacFilterExpiry (s : State) : Host.Outcome State Fault Refusal :=
  .next
    (match s.evac.since with
    | some t => (s.waitUntil (t + Config.evacFilterTicks)).filterEvac
    | none => s)

/-! ## Measurement (R23 to R27) -/

/-- LCONV is SAMPLING: the S-th settle block has ended (Table 2.3). -/
def Meas.isSampling (m : Meas) : Bool := decide (m.settle ≤ m.settled)

/-- SETTLE_BLOCK_END (R23). -/
def execSettleBlockEnd (s : State) : Host.Outcome State Fault Refusal :=
  .next
    (match s.lconv with
    | some m => if m.isSampling then s else { s.waitUntil (s.blockDue m) with lconv := some (s.settleBlock m) }
    | none => s)

/-- The end of a sample block: the measurement goes on, or completes at its N-th and LCONV reports free (R25, R27). -/
def State.endSampleBlock (s : State) (m : Meas) (thermalClosed supplyClosed : Bool) (order : RaceOrder) : State :=
  if m.sample ≤ m.sampled then (s.complete m thermalClosed supplyClosed).freeReport order
  else { s with lconv := some m }

/-- SAMPLE_BLOCK_END (R23, R24, R25, R27). -/
def execSampleBlockEnd (v i prog : Code) (thermalClosed supplyClosed : Bool) (order : RaceOrder) (s : State) :
    Host.Outcome State Fault Refusal :=
  .next
    (match s.lconv with
    | some m =>
      if m.isSampling then
        (s.waitUntil (s.blockDue m)).endSampleBlock (s.sampleBlock m v.val i.val prog.val) thermalClosed supplyClosed
          order
      else s
    | none => s)

/-- The limit of the period counter, 32·D ticks (R26). -/
def State.counterLimit (s : State) : Nat := 32 * s.cfg.pilotD

/-- PERIOD_COUNT_COMPLETE: sixteen cycles counted; a count is always below 32·D (R26, R49). -/
def execPeriodCountComplete (count : Nat) (s : State) : Host.Outcome State Fault Refusal :=
  .next
    (match s.lconv with
    | some m =>
      match m.counter with
      | .running since =>
        if count < s.counterLimit then { s.waitUntil (since + count) with lconv := some { m with counter := .done count } }
        else s
      | .idle => s
      | .done _ => s
      | .gaveUp => s
    | none => s)

/-- PERIOD_COUNT_GIVE_UP: 32·D ticks without sixteen cycles (R26). -/
def execPeriodCountGiveUp (s : State) : Host.Outcome State Fault Refusal :=
  .next
    (match s.lconv with
    | some m =>
      match m.counter with
      | .running since => { s.waitUntil (since + s.counterLimit) with lconv := some { m with counter := .gaveUp } }
      | .idle => s
      | .done _ => s
      | .gaveUp => s
    | none => s)

/-- PERIOD_WAIT_EXPIRY: the round period has passed and the next round starts (R61, R64). -/
def execPeriodWaitExpiry (s : State) : Host.Outcome State Fault Refusal :=
  .next
    (if s.seq.state = .periodWait then
      (s.waitUntil (s.seq.roundStart + s.seq.periodInUse * Config.ticksPerMs)).startRound
    else s)

/-! ## Earth bridge (R83 to R85) -/

/-- SOAK_END (R83). -/
def execSoakEnd (bias : BiasReading) (s : State) : Host.Outcome State Fault Refusal :=
  .next
    (match s.ebrg.mode with
    | .soaking t => (s.waitUntil (t.biasOn + t.soak.ms * Config.ticksPerMs)).endSoak t bias.val
    | .idle => s
    | .waiting _ => s
    | .measuring _ => s)

/-- The end of a leakage block: the test goes on, or completes at its last (R84, R85). -/
def State.endLeakageBlock (s : State) (t : EarthTest) : State :=
  if t.ne ≤ t.blocks then s.completeTest t else s.setMode (.measuring t)

/-- LEAKAGE_BLOCK_END (R84). -/
def execLeakageBlockEnd (code : Code) (s : State) : Host.Outcome State Fault Refusal :=
  .next
    (match s.ebrg.mode with
    | .measuring t =>
      (s.waitUntil (t.blockStart + Config.leakageBlockTicks)).endLeakageBlock (t.addBlock code.val)
    | .idle => s
    | .waiting _ => s
    | .soaking _ => s)

/-! ## Timers (R151, R165) -/

/-- PULSE_PHASE_EXPIRY: a released phase of 750 ms or an asserted one of 250 ms ends (R151). -/
def execPulsePhaseExpiry (o : OutputId) (s : State) : Host.Outcome State Fault Refusal :=
  .next
    (match (s.fout.get o).pulse with
    | some ph =>
      { s.waitUntil ph.next.since with fout := s.fout.set o { s.fout.get o with pulse := some ph.next } }
    | none => s)

/-- FREEZE_EXPIRY: the freeze timer expires, the view is released and the indicator set (R165). -/
def execFreezeExpiry (s : State) : Host.Outcome State Fault Refusal :=
  .next
    (match s.link.frozen with
    | some f =>
      let s1 := s.waitUntil f.deadline
      { s1 with link := { s1.link with frozen := none, freezeExpired := true } }
    | none => s)

end Sys2Proof.Machine
end

