-- ==== Sys2Proof/Machine/SetRequests.lean ====
section
/-! DEFINITION. The setting requests (R2): each checks its payload whole, writes its fields together, advances the
change counter, and the reactions of the other blocks follow from the tables after the whole request. -/

namespace Sys2Proof.Machine

/-! ## SET-LINE (R4 to R7) -/

/-- The line table entry after a request. -/
def LineChange.write (c : LineChange) (e : LineEntry) : LineEntry where
  state := c.state.getD e.state
  amp := c.amp.getD e.amp
  zone := c.zone.getD e.zone
  profile := c.profile.getD e.profile
  zref := c.zref.getD e.zref

/-- Writing a line table entry. -/
def State.setLineEntry (s : State) (l : LineId) (e : LineEntry) : State :=
  { s with cfg := { s.cfg with lines := s.cfg.lines.set l e } }

/-- The OFF effects on a line's conditions, notices, confirm entry and learning record (R5, R125). -/
def State.lineOffEffects (s : State) (l : LineId) : State :=
  ((((s.turnOffConds (.line l)).zeroMaskedRun l).dropNotices (.line l)).dropConfirm (.line l)).setLearn l none

/-- CEVAL's, NQ's and LEARN's reactions to a change of a line's state field (R5, R123, R125). -/
def State.reactLineState (s : State) (l : LineId) (old new : SubjState) : State :=
  if old ≠ .off ∧ new = .off then s.lineOffEffects l
  else if old = .held ∧ new = .watching ∧ s.lineInEmergency l = false then s.announceActive (.line l)
  else s

/-- The default ring is to be rebuilt at the next round start (R60). -/
def State.markRebuild (s : State) : State :=
  if s.cfg.form = .byDefault then { s with seq := { s.seq with rebuildPending := true } } else s

/-- The reactions to a written amp field: the rebuild mark, and attribution to an amplifier whose NOPILOT is ACTIVE,
whether or not the value differs (R6, R60, R103). -/
def State.reactLineAmp (s : State) (l : LineId) (written : Bool) : State :=
  if written then
    let s1 := s.markRebuild
    if (s1.line l).state ≠ .off ∧ s1.noPilot (s1.line l).amp = true then s1.attributeLine l else s1
  else s

/-- The reaction to a change of a line's profile: the conditions whose rule differs are re-evaluated (R6, R117). -/
def State.reactLineProfile (s : State) (l : LineId) (old new : ProfileId) : State :=
  s.reevaluateAll ((changedLineKinds s.cfg.profiles[old] s.cfg.profiles[new]).map (.line l))

/-- The reaction to a written zref: CLEAR, or a value that differs or was absent, empties HIGHZ and LOWZ (R7,
R118). -/
def State.reactZref (s : State) (l : LineId) (written : Option (Option Nat)) (old : Option Nat) : State :=
  match written with
  | none => s
  | some none => s.emptyRef l
  | some (some z) => if old = some z then s else s.emptyRef l

/-- EBRG's act when a line has been set OFF: with that line chosen the test or wait ends and the next choice
follows (R89); otherwise a wait ended by a free report retries (R82). -/
def State.earthAfterOff (s : State) (l : LineId) : State :=
  if s.ebrg.mode.chosen = some l then (s.setMode .idle).choose else s.earthRetry

/-- What LCONV, SEQ and EBRG do when a line has been set OFF (R5, R33, R89): its measurement in flight is abandoned
and LCONV reports free; its earth test or wait ends and EBRG chooses again. The two acts come in either order. -/
def State.blocksAfterLineOff (s : State) (l : LineId) (order : RaceOrder) : State :=
  if s.measuring (.line l) then
    match order with
    | .earthFirst => (s.releaseLconv.earthAfterOff l).grantDecision
    | .seqFirst => s.releaseLconv.grantDecision.earthAfterOff l
  else if s.ebrg.mode.chosen = some l then s.earthAfterOff l
  else s

/-- What EBRG does when a line has come out of OFF: an IDLE bridge makes a choice (R80). -/
def State.bridgeAfterLineOn (s : State) : State := if s.ebrg.mode = .idle then s.choose else s

/-- The reactions of LCONV, SEQ and EBRG to a change of a line's state field. -/
def State.reactBlocks (s : State) (l : LineId) (old new : SubjState) (order : RaceOrder) : State :=
  if old ≠ .off ∧ new = .off then s.blocksAfterLineOff l order
  else if old = .off ∧ new ≠ .off then s.bridgeAfterLineOn
  else s

/-- An accepted SET-LINE: all fields written together, then the reactions (R2, R4 to R7, R16). Their order, where
the rules give none, is assumption log 12. -/
def applySetLine (c : LineChange) (order : RaceOrder) (s : State) : State :=
  let old := s.line c.line
  let new := c.write old
  let s1 := (s.bumpCounter.setLineEntry c.line new).reactLineState c.line old.state new.state
  let s2 := s1.reevalOutputs.reactLineAmp c.line c.amp.isSome
  let s3 := (s2.announceEntries s).reevalOutputs
  let s4 := (s3.reactLineProfile c.line old.profile new.profile).reactZref c.line c.zref old.zref
  s4.reactBlocks c.line old.state new.state order

/-- SET-LINE's decision: REFUSED-BUSY for a zref on a learning line, after the checks of R2 (R4). -/
def setLineAct (order : RaceOrder) (c : LineChange) (s : State) : State × Answer :=
  if s.learn[c.line].isSome = true ∧ c.zref.isSome = true then (s, .bare .refusedBusy)
  else
    let s1 := applySetLine c order s
    (s1, .full (doneOr c.clamped) (.lineEntry (c.write (s.line c.line)) s1.link.changeCounter))

/-- SET-LINE (R4). -/
def execSetLine (p : Port) (dest : Byte) (payload : List Byte) (order : RaceOrder) (s : State) : Result :=
  .next (s.deliverUnit p dest 0x21 payload fun s => parsed (parseSetLine payload) s (setLineAct order))

/-! ## SET-AMP (R9) -/

/-- The amplifier table entry after a request. -/
def AmpChange.write (c : AmpChange) (e : AmpEntry) : AmpEntry where
  state := c.state.getD e.state
  polarity := c.polarity.getD e.polarity

/-- Writing an amplifier table entry. -/
def State.setAmpEntry (s : State) (a : AmpId) (e : AmpEntry) : State :=
  { s with cfg := { s.cfg with amps := s.cfg.amps.set a e } }

/-- The OFF effects on an amplifier's conditions, notices and confirm entry (R9, R125). -/
def State.ampOffEffects (s : State) (a : AmpId) : State :=
  ((s.turnOffConds (.amp a)).dropNotices (.amp a)).dropConfirm (.amp a)

/-- The reactions of CEVAL and NQ to a change of an amplifier's state field, and the first-count mark on leaving
OFF (R9, R97, R123, R125). -/
def State.reactAmpState (s : State) (a : AmpId) (old new : SubjState) : State :=
  if old ≠ .off ∧ new = .off then s.ampOffEffects a
  else if old = .off ∧ new ≠ .off then s.setFirstCount a true
  else if old = .held ∧ new = .watching ∧ s.ampInEmergency a = false then s.announceActive (.amp a)
  else s

/-- The measurement in flight of an amplifier that has been set OFF is abandoned and LCONV reports free (R33). -/
def State.abandonAmp (s : State) (a : AmpId) (old new : SubjState) (order : RaceOrder) : State :=
  if old ≠ .off ∧ new = .off ∧ s.measuring (.amp a) = true then s.releaseLconv.freeReport order else s

/-- An accepted SET-AMP (R9). -/
def applySetAmp (c : AmpChange) (order : RaceOrder) (s : State) : State :=
  let old := s.amp c.amp
  let new := c.write old
  let s1 := (s.bumpCounter.setAmpEntry c.amp new).reactAmpState c.amp old.state new.state
  s1.reevalOutputs.abandonAmp c.amp old.state new.state order

/-- SET-AMP's decision. -/
def setAmpAct (order : RaceOrder) (c : AmpChange) (s : State) : State × Answer :=
  let s1 := applySetAmp c order s
  (s1, .full .done (.ampEntry (c.write (s.amp c.amp)) s1.link.changeCounter))

/-- SET-AMP (R9). -/
def execSetAmp (p : Port) (dest : Byte) (payload : List Byte) (order : RaceOrder) (s : State) : Result :=
  .next (s.deliverUnit p dest 0x22 payload fun s => parsed (parseSetAmp payload) s (setAmpAct order))

/-! ## SET-AMP-WIDE (R10) -/

/-- The amplifier-wide settings after a request. -/
def AmpWideChange.write (c : AmpWideChange) (w : AmpWide) : AmpWide where
  rule := c.rule.getD w.rule
  overload := c.overload.getD w.overload
  vmin := c.vmin.getD w.vmin
  freqTol := c.freqTol.getD w.freqTol

/-- Every amplifier condition, amplifiers ascending, in the order of Table 7.1. -/
def allAmpConds : List CondId := allAmps.flatMap fun a => condsOf (.amp a)

/-- An accepted SET-AMP-WIDE: a changed vote rule re-evaluates every amplifier condition (R10, R117). -/
def applySetAmpWide (c : AmpWideChange) (s : State) : State :=
  let new := c.write s.cfg.wide
  let s0 := s.bumpCounter
  let s1 : State := { s0 with cfg := { s0.cfg with wide := new } }
  if s.cfg.wide.rule = new.rule then s1 else s1.reevaluateAll allAmpConds

/-- SET-AMP-WIDE's decision. -/
def setAmpWideAct (c : AmpWideChange) (s : State) : State × Answer :=
  let s1 := applySetAmpWide c s
  (s1, .full (doneOr c.clamped) (.ampWide (c.write s.cfg.wide) s1.link.changeCounter))

/-- SET-AMP-WIDE (R10). -/
def execSetAmpWide (p : Port) (dest : Byte) (payload : List Byte) (s : State) : Result :=
  .next (s.deliverUnit p dest 0x23 payload fun s => parsed (parseSetAmpWide payload) s setAmpWideAct)

/-! ## SET-PROFILE (R12) -/

/-- A profile after a request. -/
def ProfileChange.write (c : ProfileChange) (p : Profile) : Profile where
  impRule := c.impRule.getD p.impRule
  earthRule := c.earthRule.getD p.earthRule
  high := c.high.getD p.high
  low := c.low.getD p.low
  shortLimit := c.shortLimit.getD p.shortLimit
  openLimit := c.openLimit.getD p.openLimit
  ishort := c.ishort.getD p.ishort
  vmin := c.vmin.getD p.vmin
  imin := c.imin.getD p.imin
  maskLevel := c.maskLevel.getD p.maskLevel
  maskLimit := c.maskLimit.getD p.maskLimit
  earthThreshold := c.earthThreshold.getD p.earthThreshold

/-- The conditions a change of a profile re-evaluates: those whose rule changed, of each line assigned (Table
1.7). -/
def State.profileConds (s : State) (i : ProfileId) (old new : Profile) : List CondId :=
  (allLines.filter fun l => decide ((s.line l).profile = i)).flatMap fun l =>
    (changedLineKinds old new).map (.line l)

/-- An accepted SET-PROFILE (R12, R117). -/
def applySetProfile (c : ProfileChange) (s : State) : State :=
  let old := s.cfg.profiles[c.profile]
  let new := c.write old
  let s0 := s.bumpCounter
  let s1 : State := { s0 with cfg := { s0.cfg with profiles := s0.cfg.profiles.set c.profile new } }
  s1.reevaluateAll (s1.profileConds c.profile old new)

/-- SET-PROFILE's decision. -/
def setProfileAct (c : ProfileChange) (s : State) : State × Answer :=
  let s1 := applySetProfile c s
  (s1, .full (doneOr c.clamped) (.profileSet (c.write s.cfg.profiles[c.profile]) s1.link.changeCounter))

/-- SET-PROFILE (R12). -/
def execSetProfile (p : Port) (dest : Byte) (payload : List Byte) (s : State) : Result :=
  .next (s.deliverUnit p dest 0x24 payload fun s => parsed (parseSetProfile payload) s setProfileAct)

/-! ## SET-LEVELS (R13) -/

/-- The notice level table after a request. -/
def LevelsChange.write (c : LevelsChange) (t : Vector Level 15) : Vector Level 15 :=
  c.pairs.foldl (fun t x => t.set x.1.index x.2) t

/-- SET-LEVELS's decision. -/
def setLevelsAct (c : LevelsChange) (s : State) : State × Answer :=
  let s0 := s.bumpCounter
  let s1 : State := { s0 with cfg := { s0.cfg with levels := c.write s0.cfg.levels } }
  (s1, .full (doneOr c.clamped) (.levels s1.cfg.levels s1.link.changeCounter))

/-- SET-LEVELS (R13). -/
def execSetLevels (p : Port) (dest : Byte) (payload : List Byte) (s : State) : Result :=
  .next (s.deliverUnit p dest 0x25 payload fun s => parsed (parseSetLevels payload) s setLevelsAct)

/-! ## SET-SCAN (R72 to R74) -/

/-- The scan settings after a request. -/
def ScanChange.write (c : ScanChange) (x : ScanSettings) : ScanSettings where
  settle := c.settle.getD x.settle
  accum := c.accum.getD x.accum
  period := c.period.getD x.period
  freezeTime := c.freezeTime.getD x.freezeTime

/-- SEQ with a new ring put in place: the rebuild mark cleared, and in GRANTED the pointer at the first entry and
the skip marks cleared (R73). -/
def Seq.newRing (q : Seq) : Seq :=
  if q.state = .granted then { q with rebuildPending := false, pointer := 0, skips := [] }
  else { q with rebuildPending := false }

/-- A scan ring put in place with its form (R73). -/
def State.putRing (s : State) (form : RingForm) (ring : List RingEntry) : State :=
  { s with cfg := { s.cfg with form := form, ring := ring }, seq := s.seq.newRing }

/-- An accepted SET-SCAN (R73, R74). -/
def applySetScan (c : ScanChange) (s : State) : State :=
  let s0 := s.bumpCounter
  let s1 : State := { s0 with cfg := { s0.cfg with scan := c.write s0.cfg.scan } }
  match c.ring with
  | some ring => s1.putRing .custom ring
  | none => if c.defaultRing then s1.putRing .byDefault (defaultRing s1.cfg.lines) else s1

/-- SET-SCAN's decision. -/
def setScanAct (c : ScanChange) (s : State) : State × Answer :=
  let s1 := applySetScan c s
  (s1, .full (doneOr c.clamped) (.scanSet s1.cfg.scan s1.cfg.form s1.cfg.ring.length s1.link.changeCounter))

/-- SET-SCAN (R72). -/
def execSetScan (p : Port) (dest : Byte) (payload : List Byte) (s : State) : Result :=
  .next (s.deliverUnit p dest 0x26 payload fun s => parsed (parseSetScan payload) s setScanAct)

/-! ## SET-PILOT (R19, R20) -/

/-- Every amplifier re-armed for its first period count (R20, R97). -/
def State.rearmAll (s : State) : State := { s with firstCount := Vector.ofFn fun _ => true }

/-- The measurement in flight abandoned, whatever its subject, and LCONV's free report (R20). -/
def State.abandonAny (s : State) (order : RaceOrder) : State :=
  if s.lconv.isSome then s.releaseLconv.freeReport order else s

/-- An accepted SET-PILOT: a value that differs changes D, re-arms every amplifier and abandons the measurement in
flight (R19, R20). -/
def applySetPilot (d : Nat) (order : RaceOrder) (s : State) : State :=
  let s0 := s.bumpCounter
  if s.cfg.pilotD = d then s0
  else
    let s1 : State := { s0 with cfg := { s0.cfg with pilotD := d } }
    s1.rearmAll.abandonAny order

/-- SET-PILOT's decision. -/
def setPilotAct (order : RaceOrder) (c : Nat × Bool) (s : State) : State × Answer :=
  let s1 := applySetPilot c.1 order s
  (s1, .full (doneOr c.2) (.pilot s1.cfg.pilotD s1.link.changeCounter))

/-- SET-PILOT (R19). -/
def execSetPilot (p : Port) (dest : Byte) (payload : List Byte) (order : RaceOrder) (s : State) : Result :=
  .next (s.deliverUnit p dest 0x27 payload fun s => parsed (parseSetPilot payload) s (setPilotAct order))

/-! ## SET-EARTH (R87, R88) -/

/-- The earth settings after a request. -/
def EarthChange.write (c : EarthChange) (e : EarthSettings) : EarthSettings where
  supervision := c.supervision.getD e.supervision
  soak := c.soak.getD e.soak
  ne := c.ne.getD e.ne

/-- The reaction to a change of the supervision setting (R88). -/
def State.reactSupervision (s : State) (old new : Bool) : State :=
  match old, new with
  | true, false => { s with ebrg := s.ebrg.turnOff }
  | false, true => s.choose
  | true, true => s
  | false, false => s

/-- An accepted SET-EARTH (R87, R88). -/
def applySetEarth (c : EarthChange) (s : State) : State :=
  let new := c.write s.cfg.earth
  let s0 := s.bumpCounter
  let s1 : State := { s0 with cfg := { s0.cfg with earth := new } }
  s1.reactSupervision s.cfg.earth.supervision new.supervision

/-- SET-EARTH's decision. -/
def setEarthAct (c : EarthChange) (s : State) : State × Answer :=
  let s1 := applySetEarth c s
  (s1, .full (doneOr c.clamped)
    (.earth s1.cfg.earth s1.ebrg.mode.name s1.ebrg.mode.chosen s1.link.changeCounter))

/-- SET-EARTH (R87). -/
def execSetEarth (p : Port) (dest : Byte) (payload : List Byte) (s : State) : Result :=
  .next (s.deliverUnit p dest 0x28 payload fun s => parsed (parseSetEarth payload) s setEarthAct)

/-! ## SET-OUTPUT (R152, R153) -/

/-- An output record after a request. -/
def OutputChange.write (c : OutputChange) (o : OutSettings) : OutSettings where
  mode := c.mode.getD o.mode
  mask := c.mask.getD o.mask
  invert := c.invert.getD o.invert
  latched := c.latched.getD o.latched
  short := c.short.getD o.short

/-- An accepted SET-OUTPUT: the settings, the health under them, then the reactions of the output (R150 to R153). -/
def applySetOutput (c : OutputChange) (s : State) : State :=
  let old := s.cfg.out c.out
  let new := c.write old
  let s0 := s.bumpCounter
  let s1 : State := { s0 with cfg := s0.cfg.setOut c.out new }
  let s2 := s1.reevalOutputs
  { s2 with fout := s2.fout.set c.out ((s2.fout.get c.out).react old new s2.clock) }

/-- SET-OUTPUT's decision. -/
def setOutputAct (c : OutputChange) (s : State) : State × Answer :=
  let s1 := applySetOutput c s
  (s1, .full .done (.output (s1.cfg.out c.out) (s1.fout.get c.out) s1.link.changeCounter))

/-- SET-OUTPUT (R153). -/
def execSetOutput (p : Port) (dest : Byte) (payload : List Byte) (s : State) : Result :=
  .next (s.deliverUnit p dest 0x29 payload fun s => parsed (parseSetOutput payload) s setOutputAct)

/-! ## SET-GROUPS (R160) -/

/-- SET-GROUPS's decision: the set replaced. -/
def setGroupsAct (gs : List Byte) (s : State) : State × Answer :=
  let s0 := s.bumpCounter
  let s1 : State := { s0 with cfg := { s0.cfg with groups := gs } }
  (s1, .full .done (.groups gs s1.link.changeCounter))

/-- SET-GROUPS (R160). -/
def execSetGroups (p : Port) (dest : Byte) (payload : List Byte) (s : State) : Result :=
  .next (s.deliverUnit p dest 0x2A payload fun s => parsed (parseSetGroups payload) s setGroupsAct)

end Sys2Proof.Machine
end

