-- ==== Sys2Proof/Machine/Dispatch.lean ====
section
/-! DEFINITION. The meaning of every command: one arm per row of spec/opcode_table.json. -/

namespace Sys2Proof.Machine

def exec (i : Instr) (s : State) : Host.Outcome State Fault Refusal :=
  match i with
  | .identify p dest payload => Sys2Proof.Machine.execIdentify p dest payload s
  | .status p dest payload => Sys2Proof.Machine.execStatus p dest payload s
  | .poll p dest payload => Sys2Proof.Machine.execPoll p dest payload s
  | .readLine p dest payload => Sys2Proof.Machine.execReadLine p dest payload s
  | .readAmp p dest payload => Sys2Proof.Machine.execReadAmp p dest payload s
  | .readDevice p dest payload => Sys2Proof.Machine.execReadDevice p dest payload s
  | .readSummary p dest payload => Sys2Proof.Machine.execReadSummary p dest payload s
  | .readProfile p dest payload => Sys2Proof.Machine.execReadProfile p dest payload s
  | .readScan p dest payload => Sys2Proof.Machine.execReadScan p dest payload s
  | .readOutputs p dest payload => Sys2Proof.Machine.execReadOutputs p dest payload s
  | .setLine p dest payload order => Sys2Proof.Machine.execSetLine p dest payload order s
  | .setAmp p dest payload order => Sys2Proof.Machine.execSetAmp p dest payload order s
  | .setAmpWide p dest payload => Sys2Proof.Machine.execSetAmpWide p dest payload s
  | .setProfile p dest payload => Sys2Proof.Machine.execSetProfile p dest payload s
  | .setLevels p dest payload => Sys2Proof.Machine.execSetLevels p dest payload s
  | .setScan p dest payload => Sys2Proof.Machine.execSetScan p dest payload s
  | .setPilot p dest payload order => Sys2Proof.Machine.execSetPilot p dest payload order s
  | .setEarth p dest payload => Sys2Proof.Machine.execSetEarth p dest payload s
  | .setOutput p dest payload => Sys2Proof.Machine.execSetOutput p dest payload s
  | .setGroups p dest payload => Sys2Proof.Machine.execSetGroups p dest payload s
  | .learn p dest payload => Sys2Proof.Machine.execLearn p dest payload s
  | .abortLearn p dest payload => Sys2Proof.Machine.execAbortLearn p dest payload s
  | .testInject p dest payload => Sys2Proof.Machine.execTestInject p dest payload s
  | .clearLatch p dest payload => Sys2Proof.Machine.execClearLatch p dest payload s
  | .clearMinmax p dest payload => Sys2Proof.Machine.execClearMinmax p dest payload s
  | .emergency p dest payload => Sys2Proof.Machine.execEmergency p dest payload s
  | .freeze p dest payload => Sys2Proof.Machine.execFreeze p dest payload s
  | .unfreeze p dest payload => Sys2Proof.Machine.execUnfreeze p dest payload s
  | .saveImage p dest payload => Sys2Proof.Machine.execSaveImage p dest payload s
  | .restart p dest payload => Sys2Proof.Machine.execRestart p dest payload s
  | .unknownKind p dest kind payload => Sys2Proof.Machine.execUnknownKind p dest kind payload s
  | .frameDropped p why => Sys2Proof.Machine.execFrameDropped p why s
  | .frameGapTimeout p => Sys2Proof.Machine.execFrameGapTimeout p s
  | .receiveOverrun p dest kind => Sys2Proof.Machine.execReceiveOverrun p dest kind s
  | .replySent p => Sys2Proof.Machine.execReplySent p s
  | .softRestart => Sys2Proof.Machine.execSoftRestart s
  | .powerOn => Sys2Proof.Machine.execPowerOn s
  | .pinReset => Sys2Proof.Machine.execPinReset s
  | .resetRelease addr baud source => Sys2Proof.Machine.execResetRelease addr baud source s
  | .loadStepEnd ack => Sys2Proof.Machine.execLoadStepEnd ack s
  | .imageWriteEnd ack readBack => Sys2Proof.Machine.execImageWriteEnd ack readBack s
  | .evacPinChange low => Sys2Proof.Machine.execEvacPinChange low s
  | .evacFilterExpiry => Sys2Proof.Machine.execEvacFilterExpiry s
  | .settleBlockEnd => Sys2Proof.Machine.execSettleBlockEnd s
  | .sampleBlockEnd v cur prog thermalClosed supplyClosed order => Sys2Proof.Machine.execSampleBlockEnd v cur prog thermalClosed supplyClosed order s
  | .periodCountComplete count => Sys2Proof.Machine.execPeriodCountComplete count s
  | .periodCountGiveUp => Sys2Proof.Machine.execPeriodCountGiveUp s
  | .periodWaitExpiry => Sys2Proof.Machine.execPeriodWaitExpiry s
  | .soakEnd bias => Sys2Proof.Machine.execSoakEnd bias s
  | .leakageBlockEnd code => Sys2Proof.Machine.execLeakageBlockEnd code s
  | .pulsePhaseExpiry o => Sys2Proof.Machine.execPulsePhaseExpiry o s
  | .freezeExpiry => Sys2Proof.Machine.execFreezeExpiry s
  | .frameStart p => Sys2Proof.Machine.execFrameStart p s
  | .frameIgnored p dest kind => Sys2Proof.Machine.execFrameIgnored p dest kind s
  | .replyBegin p => Sys2Proof.Machine.execReplyBegin p s
  | .powerLoss => Sys2Proof.Machine.execPowerLoss s

end Sys2Proof.Machine
end

