-- ==== Sys2Proof/WellFormed.lean ====
section
/-! DEFINITION. Which commands can arise: the checks a term of `Instr` must meet to name an event of the part.
`exec` answers for every term; an ill-formed one names nothing the world can do. -/

namespace Sys2Proof

/-- The payload of a frame that passes its checks has 0 to 200 bytes (R155, Table 10.1). -/
def payloadFits (payload : List Byte) : Bool := payload.length ≤ 200

/-- The largest divider is 1400 (R17), so a period count is below 32·1400 reference ticks (R26, R49). -/
def countFits (count : Nat) : Bool := count < 44800

/-- The serial memory holds 2 KB (R166). -/
def imageFits (bytes : List Byte) : Bool := bytes.length ≤ 2048

/-- The check of the one operand, beside a payload, that is not typed by its range. -/
def Instr.operandFits : Instr → Bool
  | .unknownKind _ _ kind _ => !kindNamed kind
  | .periodCountComplete count => countFits count
  | .imageWriteEnd _ readBack => imageFits readBack
  | .identify .. | .status .. | .poll .. | .readLine .. | .readAmp .. | .readDevice .. | .readSummary ..
  | .readProfile .. | .readScan .. | .readOutputs .. | .setLine .. | .setAmp .. | .setAmpWide .. | .setProfile ..
  | .setLevels .. | .setScan .. | .setPilot .. | .setEarth .. | .setOutput .. | .setGroups .. | .learn ..
  | .abortLearn .. | .testInject .. | .clearLatch .. | .clearMinmax .. | .emergency .. | .freeze .. | .unfreeze ..
  | .saveImage .. | .restart .. | .frameDropped .. | .frameGapTimeout .. | .receiveOverrun .. | .replySent ..
  | .softRestart | .powerOn | .pinReset | .resetRelease .. | .loadStepEnd .. | .evacPinChange .. | .evacFilterExpiry
  | .settleBlockEnd | .sampleBlockEnd .. | .periodCountGiveUp | .periodWaitExpiry | .soakEnd .. | .leakageBlockEnd ..
  | .pulsePhaseExpiry .. | .freezeExpiry | .frameStart .. | .frameIgnored .. | .replyBegin .. | .powerLoss => true

/-- The checks on a command's operands. The numbers that are typed by their range need none. -/
def Instr.wellFormed (i : Instr) : Bool := i.payload.all payloadFits && i.operandFits

end Sys2Proof
end

