-- ==== Sys2Proof/Safety.lean ====
section
/-! DEFINITION. What counts as a good state of the CB-2408, in the terms the statements use: invariants that every
step keeps, the frame a request command brings, and a state that has taken a frame and answered it. -/

namespace Sys2Proof

/-- The port, destination, kind and payload of a request command; none for the other commands. -/
def Instr.request : Instr → Option (Port × Byte × Byte × List Byte)
  | .identify p d pl => some (p, d, 0x01, pl)
  | .status p d pl => some (p, d, 0x02, pl)
  | .poll p d pl => some (p, d, 0x03, pl)
  | .readLine p d pl => some (p, d, 0x04, pl)
  | .readAmp p d pl => some (p, d, 0x05, pl)
  | .readDevice p d pl => some (p, d, 0x06, pl)
  | .readSummary p d pl => some (p, d, 0x07, pl)
  | .readProfile p d pl => some (p, d, 0x08, pl)
  | .readScan p d pl => some (p, d, 0x09, pl)
  | .readOutputs p d pl => some (p, d, 0x0A, pl)
  | .setLine p d pl _ => some (p, d, 0x21, pl)
  | .setAmp p d pl _ => some (p, d, 0x22, pl)
  | .setAmpWide p d pl => some (p, d, 0x23, pl)
  | .setProfile p d pl => some (p, d, 0x24, pl)
  | .setLevels p d pl => some (p, d, 0x25, pl)
  | .setScan p d pl => some (p, d, 0x26, pl)
  | .setPilot p d pl _ => some (p, d, 0x27, pl)
  | .setEarth p d pl => some (p, d, 0x28, pl)
  | .setOutput p d pl => some (p, d, 0x29, pl)
  | .setGroups p d pl => some (p, d, 0x2A, pl)
  | .learn p d pl => some (p, d, 0x41, pl)
  | .abortLearn p d pl => some (p, d, 0x42, pl)
  | .testInject p d pl => some (p, d, 0x43, pl)
  | .clearLatch p d pl => some (p, d, 0x44, pl)
  | .clearMinmax p d pl => some (p, d, 0x45, pl)
  | .emergency p d pl => some (p, d, 0x46, pl)
  | .freeze p d pl => some (p, d, 0x47, pl)
  | .unfreeze p d pl => some (p, d, 0x48, pl)
  | .saveImage p d pl => some (p, d, 0x49, pl)
  | .restart p d pl => some (p, d, 0x4A, pl)
  | .unknownKind p d k pl => some (p, d, k, pl)
  | .frameDropped .. | .frameGapTimeout .. | .receiveOverrun .. | .replySent .. | .softRestart | .powerOn
  | .pinReset | .resetRelease .. | .loadStepEnd .. | .imageWriteEnd .. | .evacPinChange .. | .evacFilterExpiry
  | .settleBlockEnd | .sampleBlockEnd .. | .periodCountComplete .. | .periodCountGiveUp | .periodWaitExpiry
  | .soakEnd .. | .leakageBlockEnd .. | .pulsePhaseExpiry .. | .freezeExpiry | .frameStart .. | .frameIgnored ..
  | .replyBegin .. | .powerLoss => none

/-- The commands that begin, release or carry on a restart (Chapter 11). -/
def Instr.isRestart : Instr → Bool
  | .restart .. | .softRestart | .powerOn | .pinReset | .powerLoss | .resetRelease .. | .loadStepEnd .. => true
  | _ => false

/-- The setting requests (R159). -/
def Instr.isSetting : Instr → Bool
  | .setLine .. | .setAmp .. | .setAmpWide .. | .setProfile .. | .setLevels .. | .setScan .. | .setPilot ..
  | .setEarth .. | .setOutput .. | .setGroups .. => true
  | _ => false

namespace Machine

/-! ## Frames taken and answered -/

/-- In RUNNING, a frame to `dest` that arrives on port `p` is for this part alone, and the port is free to take it
(R156, R157). -/
def State.takes (s : State) (p : Port) (dest : Byte) : Prop :=
  s.poweredUp = true ∧ s.boot.phase = .running ∧ (s.port p).held = none ∧ dest.toNat = s.straps.unit

/-- In RUNNING, a frame to `dest` that arrives on port `p` is a broadcast, or is sent to a group of this part's, and
the port is free to take it (R156, R157). -/
def State.takesMulti (s : State) (p : Port) (dest : Byte) : Prop :=
  s.poweredUp = true ∧ s.boot.phase = .running ∧ (s.port p).held = none ∧ s.multicastAddress dest = true
    ∧ dest.toNat ≠ s.straps.unit

/-- A state in which port `p` holds the frame it has just taken, with its reply formed. -/
def State.answered (s : State) (p : Port) (kind : Byte) (reply : Reply) (restarts : Option RestartCopy) : State :=
  s.setPort p
    { s.port p with
      inFrame := false
      held := some { kind := kind, reply := reply, takenAt := s.clock, sending := false, restarts := restarts } }

/-- The view byte of a record read: FROZEN while the view is in force (R158, R164). -/
def State.view (s : State) : View := if s.link.frozen.isSome then .frozen else .live

/-- The change counter after an accepted setting request (R159). -/
def State.counterAfter (s : State) : Nat := if 255 ≤ s.link.changeCounter then 1 else s.link.changeCounter + 1

/-- A state with the change counter advanced by an accepted setting request (R159). -/
def State.advanced (s : State) : State := { s with link := { s.link with changeCounter := s.counterAfter } }

/-- What no setting request and no action touches: the supply, the straps, the pilot, the EVAC input, the frozen view,
the port the frame did not come in on, the dropped-frame count of the one it did, and the model's clock and queue. -/
structure SameElsewhere (s t : State) (p : Port) : Prop where
  clock : t.clock = s.clock
  power : t.power = s.power
  straps : t.straps = s.straps
  pilotOn : t.pilotOn = s.pilotOn
  evac : t.evac = s.evac
  frozen : t.link.frozen = s.link.frozen
  freezeExpired : t.link.freezeExpired = s.link.freezeExpired
  port : ∀ q, q ≠ p → t.port q = s.port q
  dropped : (t.port p).dropped = (s.port p).dropped
  memory : t.memory = s.memory
  freeCount : t.freeCount = s.freeCount
  pending : t.pending = s.pending

/-- The measurement and earth result records and minZ and maxZ of every subject are the same. -/
structure SameResults (s t : State) : Prop where
  lineRes : t.recs.lineRes = s.recs.lineRes
  ampRes : t.recs.ampRes = s.recs.ampRes
  refRes : t.recs.refRes = s.recs.refRes
  earthRes : t.recs.earthRes = s.recs.earthRes
  minMax : t.recs.minMax = s.recs.minMax

/-- Port `p` holds the frame just taken, with its reply formed, and its receiver is hunting. -/
def State.holds (s : State) (p : Port) (kind : Byte) (reply : Reply) : Prop :=
  (s.port p).inFrame = false
  ∧ (s.port p).held
      = some { kind := kind, reply := reply, takenAt := s.clock, sending := false, restarts := none }

/-- The notice of an ACTIVE condition announced without a vote: no cause, no value, the TEST flag where an injection is
pending (R123, R124). -/
def State.announcement (s : State) (id : CondId) (level : Level) : Notice where
  subject := id.subject
  kind := .cond id.kind
  event := .active
  cause := none
  level := level
  round := s.seq.round
  value := none
  transient := false
  test := (s.cond id).injection.isSome

/-- The ACTIVE conditions of a subject in the order of Table 7.1. -/
def State.activeConds (s : State) (x : Subject) : List CondId :=
  (condsOf x).filter fun id => decide ((s.cond id).state = .active)

/-- Notices handed to NQ one after another (R143, R145). -/
def NoticeQueue.placeAll (q : NoticeQueue) (ns : List Notice) : NoticeQueue := ns.foldl NoticeQueue.place q

/-- The level of a condition's notice handed over in a state: its kind's table level, 7 for a subject in emergency
(R144). -/
def State.levelNow (s : State) (id : CondId) : Level :=
  if s.inEmergency id.subject then 7 else s.cfg.levels[id.kind.index]

/-- The notice of a condition's move from the record `c` to the state `new`: one for an entry into ACTIVE or an exit from
it, where the subject is a reporting subject, with the TEST flag of a pending injection; none otherwise (R111, R113). -/
def State.moveNotice (s : State) (id : CondId) (c : Cond) (new : CondState) (cause : Option Cause) (value : Option Nat) :
    List Notice :=
  if s.counted id.subject = true ∧ decide (c.state = .active) ≠ decide (new = .active) then
    [{ subject := id.subject
       kind := .cond id.kind
       event := if new = .active then .active else .clear
       cause := cause
       level := s.levelNow id
       round := s.seq.round
       value := value
       transient := false
       test := c.injection.isSome }]
  else []

/-- The notices of the attribution that follows an amplifier's NOPILOT into ACTIVE: a CLEAR with cause ATTRIBUTED for
each ACTIVE DEAD of the lines it feeds that are not OFF, lines ascending (R102). -/
def State.attributedNotices (s : State) (a : AmpId) : List Notice :=
  (allLines.filter fun l => decide ((s.line l).amp = a ∧ (s.line l).state ≠ .off)).flatMap fun l =>
    s.moveNotice (.line l .dead) (s.cond (.line l .dead)) .clear (some .attributed) none

/-- The notices of a change of emergency membership between two states: the ACTIVE conditions of every HELD subject that
has just entered, lines ascending and then amplifiers, at level 7 (R16, R124). -/
def entryNotices (before now : State) : List Notice :=
  ((allLines.map Subject.line ++ allAmps.map Subject.amp).filter fun x =>
      decide (now.subjState x = some .held) && !before.inEmergency x && now.inEmergency x).flatMap fun x =>
    (now.activeConds x).map fun id => now.announcement id 7

/-- The notice queue after the announcements of a change of emergency membership from `s` to `t` (R16, R124). -/
def announced (s t : State) : NoticeQueue := s.nq.placeAll (entryNotices s t)

/-- The pulse phase of an output that enters RUNNING, becomes HEALTHY or turns PULSED at an instant: a new period,
released, where it is PULSED and HEALTHY (R151, R152). -/
def newPeriod (o : OutSettings) (unhealthy : Bool) (now : Nat) : Option Pulse :=
  if o.mode = .pulsed ∧ unhealthy = false then some { asserted := false, since := now } else none

/-- An output told its health at an instant (R150, R151): its state stays; where the health changes, a pulse period under
way is abandoned, and one that becomes HEALTHY in RUNNING begins a new period; otherwise the pulse phase stays. -/
def OutLive.told (l : OutLive) (o : OutSettings) (unhealthy : Bool) (now : Nat) : OutLive where
  state := l.state
  unhealthy := unhealthy
  pulse := if l.unhealthy = unhealthy then l.pulse else if l.state = .running then newPeriod o unhealthy now else none

/-- A state whose outputs have been told the health of the conditions as they stand (R150). -/
def State.tellOutputs (s : State) : State :=
  { s with
    fout :=
      { a := s.fout.a.told s.cfg.outA (s.unhealthy s.cfg.outA) s.clock
        b := s.fout.b.told s.cfg.outB (s.unhealthy s.cfg.outB) s.clock } }

/-- From `s` to `t` the outputs have been told once, of the conditions as they stand in `t` (R150, R151). -/
def healthTold (s t : State) : Prop := t.fout = ({ t with fout := s.fout } : State).tellOutputs.fout

/-- A state in which the conditions listed have gone, one after another, to the records `now` gives them, FOUT told exactly
at each entry into ACTIVE and exit from it (R111 step 4, R150). -/
def State.movedInTurn (s : State) (now : CondId → Cond) (ids : List CondId) : State :=
  ids.foldl
    (fun u id =>
      let v := u.setCond id (now id)
      if decide ((u.cond id).state = .active) ≠ decide ((now id).state = .active) then v.tellOutputs else v)
    s

/-- From `s` to `t` the conditions listed have moved in this order, and FOUT has been told at each entry into ACTIVE and
exit from it, and at nothing else (R111 step 4, R150, R151). -/
def OutputsTold (s t : State) (ids : List CondId) : Prop :=
  t.fout = (({ t with recs := s.recs, fout := s.fout } : State).movedInTurn t.cond ids).fout

/-- The conditions of an amplifier in the order of Table 7.1, NOPILOT followed by the DEAD of each line it feeds, which an
attribution empties (R102). -/
def State.ampTurn (s : State) (a : AmpId) : List CondId :=
  ampKinds.flatMap fun k =>
    .amp a k :: if k = .nopilot then
        (allLines.filter fun l => decide ((s.line l).amp = a)).map fun l => .line l .dead
      else []

/-- A condition emptied and set CLEAR, its latch and injection kept (R102, R118). -/
def Cond.emptied (c : Cond) (round : Round) : Cond :=
  { c with window := [], state := .clear, since := if c.state = .clear then c.since else round }

/-- A condition re-evaluated without a vote under a rule (R111, R117). -/
def Cond.reevaluated (c : Cond) (r : VoteRule) (round : Round) : Cond :=
  if c.judged r = c.state then c
  else { c with state := c.judged r, since := round, latch := c.latch || decide (c.judged r = .active) }

/-- A condition after one vote under a rule: the vote, BAD while an injection is pending, becomes the newest of at most
eight entries, the injection counts down, and the window is evaluated (R110, R111, R127). -/
def Cond.afterVote (c : Cond) (judged : Vote) (r : VoteRule) (round : Round) : Cond :=
  ({ c with
    window := ((if c.injection.isSome then Vote.bad else judged) :: c.window).take 8
    injection := match c.injection with
      | some n => if 2 ≤ n then some (n - 1) else none
      | none => none } : Cond).reevaluated r round

/-- A condition record after one vote in a state. -/
def State.voted (s : State) (id : CondId) (judged : Vote) : Cond :=
  (s.cond id).afterVote judged (s.ruleFor id) s.seq.round

/-- The notice queue after one vote: a notice for an entry into ACTIVE or an exit from it, with the value of the result
voted on, where the subject is a reporting subject (R111, R113). -/
def State.nqAfterVote (s : State) (id : CondId) (judged : Vote) (value : Option Nat) : NoticeQueue :=
  s.nq.placeAll (s.moveNotice id (s.cond id) (s.voted id judged).state none value)

/-- SEQ after a push: the subject queued once, behind the others, while there are fewer than 8 (R66). -/
def Seq.pushed (q : Seq) (e : RingEntry) : Seq :=
  if e ∈ q.confirm ∨ 8 ≤ q.confirm.length then q else { q with confirm := q.confirm ++ [e] }

/-- SEQ after votes of which at least one was BAD into a CLEAR condition, or none was (R66, R112). -/
def Seq.pushedIf (q : Seq) (push : Bool) (e : RingEntry) : Seq := if push then q.pushed e else q

/-- SEQ after one vote: a BAD vote into a CLEAR condition pushes its line or amplifier (R66, R112). -/
def State.seqAfterVote (s : State) (id : CondId) (judged : Vote) : Seq :=
  if (judged = .bad ∨ (s.cond id).injection.isSome = true) ∧ (s.cond id).state = .clear then
    match id.subject with
    | .line l => s.seq.pushed (.line l)
    | .amp a => s.seq.pushed (.amp a)
    | .dev => s.seq
  else s.seq

/-- A measurement just granted: S and N latched, nothing ended (R18, R22). -/
def Meas.fresh (x : MeasSubject) (scan : ScanSettings) (now : Nat) : Meas where
  subject := x
  settle := scan.settle
  sample := 4 * (scan.accum + 1)
  settled := 0
  sampled := 0
  sumV := 0
  sumI := 0
  v := 0
  clipped := false
  counter := .idle
  blockStart := now

/-- The sums of a measurement after a last sample block, which is left out when it is masked (R24, R25). -/
def Meas.withBlock (m : Meas) (masked : Bool) (v i : Nat) : Meas :=
  if masked then m
  else
    { m with
      sumV := m.sumV + v
      sumI := m.sumI + i
      v := m.v + 1
      clipped := m.clipped || (decide (v = 4095) || decide (i = 4095)) }

/-- EBRG at a report of LCONV that it is free (R82): in WAITING it makes its start again on the same line, which succeeds
unless LCONV already measures that line again. -/
def State.bridgeRetried (s : State) : State :=
  match s.ebrg.mode with
  | .waiting l =>
    if s.lineInFlight = some l then s
    else
      { s with
        ebrg := { s.ebrg with
          mode := .soaking
            { line := l, soak := s.cfg.earth.soak, ne := s.cfg.earth.ne, biasOn := s.clock, blocks := 0, sumL := 0
              saturated := false, blockStart := s.clock } } }
  | .idle | .soaking _ | .measuring _ => s

/-- The free report of LCONV: EBRG's renewed start and SEQ's grant decision, in the order the world takes them (R69,
R82). -/
def State.freeReported (s : State) : RaceOrder → State
  | .earthFirst => s.bridgeRetried.grantDecision
  | .seqFirst => s.grantDecision.bridgeRetried

/-- `u` stands right before the free report that leads to `t`: LCONV is IDLE, and only SEQ, EBRG, the outputs and the
ring can still move; the report is taken in the order given (R27 step 6, R33, R69, R82). -/
structure FreeReport (u t : State) (order : RaceOrder) : Prop where
  idle : u.lconv = none
  rest : u = { t with
    lconv := none, seq := u.seq, ebrg := u.ebrg, fout := u.fout, cfg := { t.cfg with ring := u.cfg.ring } }
  reported : t = u.freeReported order

/-- What the completion of a measurement leaves alone, and what its free report brings, from `u` right before it: in
GRANTED, SEQ's next fresh grant or the end of the round; EBRG acts only where it waits (R27, R69, R82). -/
structure AfterFreeReport (s u t : State) (order : RaceOrder) : Prop where
  report : FreeReport u t order
  before_ring : u.cfg.ring = s.cfg.ring
  before_ebrg : u.ebrg = s.ebrg
  power : t.power = s.power
  boot : t.boot = s.boot
  straps : t.straps = s.straps
  zones : t.zones = s.zones
  evac : t.evac = s.evac
  pilotOn : t.pilotOn = s.pilotOn
  link : t.link = s.link
  memory : t.memory = s.memory
  freeCount : t.freeCount = s.freeCount
  pending : t.pending = s.pending
  earthRes : t.recs.earthRes = s.recs.earthRes
  ebrg : (∀ l, s.ebrg.mode ≠ .waiting l) → t.ebrg = s.ebrg
  granted : s.seq.state = .granted → (t.lconv.isSome = true ↔ t.seq.state = .granted)
  fresh : ∀ m, t.lconv = some m → m = Meas.fresh m.subject s.cfg.scan t.clock
  ungranted : s.seq.state ≠ .granted → t.lconv = none ∧ t.seq.state = s.seq.state

/-- EBRG after a choice made in the state `s` at the instant `now` (R80, R81): IDLE with supervision OFF, outside
RUNNING, or with every line OFF; else on the first line that is not OFF from the walk position on, under bias with the
settings in force, or waiting while LCONV measures it. -/
def ChoiceMade (s : State) (e : Ebrg) (now : Nat) : Prop :=
  ((s.cfg.earth.supervision = false ∨ s.boot.phase = .starting ∨ ∀ l, (s.line l).state = .off) →
    e.mode = .idle ∧ e.walk = s.ebrg.walk)
  ∧ (s.cfg.earth.supervision = true → s.boot.phase = .running →
    ∀ d : LineId, (∀ j : LineId, j < d → (s.line (s.ebrg.walk + j)).state = .off) →
      (s.line (s.ebrg.walk + d)).state ≠ .off →
        e.walk = s.ebrg.walk + d + 1
        ∧ e.mode
          = if s.lineInFlight = some (s.ebrg.walk + d) then .waiting (s.ebrg.walk + d)
            else .soaking
              { line := s.ebrg.walk + d, soak := s.cfg.earth.soak, ne := s.cfg.earth.ne, biasOn := now, blocks := 0
                sumL := 0, saturated := false, blockStart := now })

/-- What an accepted SET-LINE `c` does to its line's conditions and to the queues and SEQ's mark, from `s` to `t`, `old`
and `new` the entry before and after (R5, R6, R7, R16, R60, R102, R103, R104, R117, R118, R123, R124, R125), in the order of
assumption log 12. The records `c0` to `c3` are the line's after each reaction in turn, and `told` is FOUT after them: told
where the line's state and the emergency membership have changed, and at each entry into ACTIVE and exit from it (R150). -/
def LineReactions (s t : State) (c : LineChange) (old new : LineEntry) (told : Fout) : Prop :=
  let round := s.seq.round
  let id := CondId.line c.line
  let written : State := { s with cfg := { s.cfg with lines := s.cfg.lines.set c.line new } }
  let setOff := old.state ≠ .off ∧ new.state = .off
  let released := old.state = .held ∧ new.state = .watching ∧ written.lineInEmergency c.line = false
  let before := s.cfg.profiles[old.profile]
  let after := s.cfg.profiles[new.profile]
  let rule := fun k : LineKind => if k = .earth then after.earthRule else after.impRule
  let ruleDiffers := fun k : LineKind =>
    if k = .earth then before.earthRule ≠ after.earthRule else k ≠ .degraded ∧ before.impRule ≠ after.impRule
  let rezeroed := c.zref = some none ∨ c.zref.isSome = true ∧ new.zref ≠ old.zref
  let c0 := fun k : LineKind =>
    if setOff then
      { window := [], state := .clear, latch := false, injection := none
        since := if (s.cond (id k)).state = .clear then (s.cond (id k)).since else round }
    else s.cond (id k)
  let c1 := fun k : LineKind =>
    if k = .dead ∧ c.amp.isSome = true ∧ new.state ≠ .off ∧ s.noPilot new.amp = true ∧ (c0 k).state ≠ .clear then
      (c0 k).emptied round
    else c0 k
  let c2 := fun k : LineKind =>
    if new.state ≠ .off ∧ ruleDiffers k then
      if k = .dead ∧ s.noPilot new.amp = true ∧ (c1 k).state = .clear ∧ (c1 k).judged (rule k) ≠ .clear then
        { c1 k with window := [] }
      else (c1 k).reevaluated (rule k) round
    else c1 k
  let c3 := fun k : LineKind => if (k = .highz ∨ k = .lowz) ∧ rezeroed then (c2 k).emptied round else c2 k
  (∀ k, t.cond (id k) = c3 k)
  ∧ t.recs.maskedRun[c.line] = (if setOff then 0 else s.recs.maskedRun[c.line])
  ∧ t.learn[c.line] = (if setOff then none else s.learn[c.line])
  ∧ t.nq
    = (if setOff then { s.nq with entries := s.nq.entries.filter fun e => decide (e.subject ≠ .line c.line) }
        else s.nq).placeAll
      ((if released then (s.activeConds (.line c.line)).map fun i => s.announcement i s.cfg.levels[i.kind.index] else [])
        ++ written.moveNotice (id .dead) (c0 .dead) (c1 .dead).state (some .attributed) none
        ++ entryNotices s (written.setCond (id .dead) (c1 .dead))
        ++ lineKinds.flatMap (fun k => written.moveNotice (id k) (c1 k) (c2 k).state none none)
        ++ [LineKind.highz, .lowz].flatMap fun k => written.moveNotice (id k) (c2 k) (c3 k).state none none)
  ∧ (let records := fun (f : LineKind → Cond) (i : CondId) =>
        match i with | .line _ k => f k | .amp _ _ => s.cond i | .dev _ => s.cond i
     let turnedOff : State := lineKinds.foldl (fun u k => u.setCond (id k) (c0 k)) written
     let entered := (turnedOff.tellOutputs.movedInTurn (records c1) [id .dead]).tellOutputs
     told = ((entered.movedInTurn (records c2) (lineKinds.map id)).movedInTurn (records c3) [id .highz, id .lowz]).fout)

/-- EBRG's act when a line has been set OFF, from `s` to `e` (R82, R89): where that line was chosen its test or wait ends and
the next choice follows; a wait for LCONV otherwise makes its start again. -/
def bridgeLosesLine (s : State) (l : LineId) (e : Ebrg) : Prop :=
  if s.ebrg.mode.chosen = some l then ChoiceMade s e s.clock ∧ e.lastBias = s.ebrg.lastBias else e = s.bridgeRetried.ebrg

/-- What LCONV, SEQ and EBRG do at an accepted SET-LINE `c` (R5, R33, R60, R67, R69, R80, R82, R89): where the line set OFF was
being measured, LCONV is IDLE in `u` and reports free, and EBRG's act and SEQ's grant decision follow in the order given;
otherwise SEQ's grant stays, and EBRG chooses where its line was set OFF, or where it was IDLE and a line left OFF. FOUT is
`told` before these acts. -/
def LineBlocks (s t : State) (c : LineChange) (old new : LineEntry) (told : Fout) (order : RaceOrder) : Prop :=
  let setOff := old.state ≠ .off ∧ new.state = .off
  let seq : Seq := { s.seq with
    rebuildPending := s.seq.rebuildPending || (c.amp.isSome && decide (s.cfg.form = .byDefault))
    confirm := if setOff then s.seq.confirm.filter fun e => decide (e ≠ .line c.line) else s.seq.confirm }
  if setOff ∧ s.measuring (.line c.line) = true then
    ∃ u : State,
      u = { t with
        lconv := none, seq := seq, ebrg := s.ebrg, fout := told, link := u.link
        cfg := { t.cfg with ring := s.cfg.ring } }
      ∧ match order with
        | .earthFirst => ∃ e, bridgeLosesLine u c.line e
            ∧ t = { ({ u with ebrg := e } : State).grantDecision with link := t.link }
        | .seqFirst => ∃ e, bridgeLosesLine u.grantDecision c.line e
            ∧ t = { u.grantDecision with ebrg := e, link := t.link }
  else
    t.seq = seq ∧ t.lconv = s.lconv ∧ t.fout = told
    ∧ if (setOff ∧ s.ebrg.mode.chosen = some c.line) ∨ (old.state = .off ∧ new.state ≠ .off ∧ s.ebrg.mode = .idle) then
        ChoiceMade { s with cfg := t.cfg } t.ebrg s.clock ∧ t.ebrg.lastBias = s.ebrg.lastBias
      else t.ebrg = s.ebrg

/-- What the release of a hard reset and the Load step leave of the blocks the start of the reset has stopped, from `s` to
`t`: the learning records, the frozen view, each port's receiver and held frame, and BOOT but for the phase and the image
status (R140, R155, R157, R165, R171). -/
structure StopKept (s t : State) (phase : Phase) (image : ImageStatus) : Prop where
  boot : t.boot = { s.boot with phase := phase, image := image }
  learn : t.learn = s.learn
  frozen : t.link.frozen = s.link.frozen
  ports : ∀ q, (t.port q).held = (s.port q).held ∧ (t.port q).inFrame = (s.port q).inFrame
  zones : t.zones = s.zones
  memory : t.memory = s.memory
  freeCount : t.freeCount = s.freeCount
  clock : t.clock = s.clock
  pending : t.pending = s.pending

/-- What every start-up leaves when the device phase becomes RUNNING (R169, R75, R80, R90, R106, R149): the settings
`cfg` with a ring of DEFAULT form rebuilt, everything concluded from the old ones cleared, the RESTART notice with
`cause` (and CONFIG's, the younger, where `config`), round 0 on its REF slot, and every amplifier's first-count mark
set. -/
structure StartedUp (t : State) (cfg : Settings) (cause : Cause) (config : Bool) : Prop where
  phase : t.boot.phase = .running
  settings : t.cfg = { cfg with ring := if cfg.form = .byDefault then defaultRing cfg.lines else cfg.ring }
  lineRes : ∀ l : LineId, t.recs.lineRes[l] = LineResult.cleared
  ampRes : ∀ a : AmpId, t.recs.ampRes[a] = AmpResult.cleared
  refRes : t.recs.refRes = RefResult.cleared
  earthRes : ∀ l : LineId, t.recs.earthRes[l] = EarthResult.cleared
  minMax : ∀ l : LineId, t.recs.minMax[l] = { minZ := 65535, maxZ := 0 }
  maskedRun : ∀ l : LineId, t.recs.maskedRun[l] = 0
  conds : ∀ id, t.cond id
    = if id = .dev .config ∧ config = true then { Cond.cleared with state := .active, latch := true } else Cond.cleared
  firstCount : ∀ a : AmpId, t.firstCount[a] = true
  notices : ∃ restart : Notice,
    restart.subject = .dev ∧ restart.kind = .restart ∧ restart.event = .restart ∧ restart.cause = some cause
    ∧ restart.level = 7 ∧ restart.round = 0
    ∧ t.nq = { entries := restart :: (if config then
          [{ subject := .dev, kind := .cond .config, event := .active, cause := none
             level := cfg.levels[Kind.config.index], round := 0, value := none, transient := false, test := false }]
        else []), overflow := false }
  seq : t.seq = { Seq.cleared with
    state := .granted
    roundStart := t.clock
    periodInUse := cfg.scan.period
    counts := { RoundCounts.zero with slotGrants := 1 } }
  ref : ∃ m, t.lconv = some m ∧ m.subject = .ref ∧ m.settle = cfg.scan.settle ∧ m.sample = 4 * (cfg.scan.accum + 1)
    ∧ m.settled = 0 ∧ m.sampled = 0 ∧ m.sumV = 0 ∧ m.sumI = 0 ∧ m.v = 0 ∧ m.clipped = false
  earth_off : cfg.earth.supervision = false → t.ebrg = Ebrg.cleared
  earth_on : cfg.earth.supervision = true → ∀ l : LineId, (∀ j : LineId, j < l → cfg.lines[j].state = .off) →
    cfg.lines[l].state ≠ .off →
      t.ebrg.walk = l + 1 ∧ t.ebrg.mode.heldLine = some l ∧ t.ebrg.lastBias = none
  outputs : t.fout =
    { a := { state := if cfg.outA.mode = .off then .off else .starting 0
             unhealthy := t.unhealthy cfg.outA, pulse := none }
      b := { state := if cfg.outB.mode = .off then .off else .starting 0
             unhealthy := t.unhealthy cfg.outB, pulse := none } }
  link : t.link.changeCounter = 0 ∧ t.link.portA.dropped = 0 ∧ t.link.portB.dropped = 0
    ∧ t.link.freezeExpired = false

/-- The settings after a soft restart: the tables, the ring, its form, the scan and the earth settings as `kept` at the
acceptance of its RESTART (R1, R75, R79); D, the outputs and the groups as they stand (R17, R149, R160). -/
def settingsKept (now kept : Settings) : Settings :=
  { now with
    lines := kept.lines, amps := kept.amps, wide := kept.wide, profiles := kept.profiles, levels := kept.levels
    form := kept.form, ring := kept.ring, scan := kept.scan, earth := kept.earth }

/-- A soft restart from `s` to `t`, whose RESTART was accepted with the copy `k` (R170, Table 11.1): everything in flight
is gone, the part has started up with cause COMMAND, and what Table 11.1 keeps is kept. -/
structure SoftRestarted (s t : State) (k : RestartCopy) : Prop where
  started : StartedUp t (settingsKept s.cfg k.settings) .command k.config
  boot : t.boot = { s.boot with phase := .running, restartDue := none }
  frozen : t.link.frozen = none
  ports : ∀ p, (t.port p).held = none ∧ (t.port p).inFrame = (s.port p).inFrame
  learn : ∀ l : LineId, t.learn[l] = none
  zones : t.zones = s.zones
  evac : t.evac = s.evac
  straps : t.straps = s.straps
  power : t.power = s.power
  pilotOn : t.pilotOn = s.pilotOn
  memory : t.memory = s.memory
  freeCount : t.freeCount = s.freeCount
  clock : t.clock = s.clock
  pending : t.pending = s.pending

/-! ## Bytes of replies (Tables 10.1 to 10.5) -/

/-- The code of a value by its place in a table whose codes count up from 0. -/
def codeIn {α : Type} [DecidableEq α] (table : List α) (x : α) : Byte := BitVec.ofNat 8 (table.idxOf x)

/-- The subject codes of Table 10.3. -/
def subjectByte : Subject → Byte
  | .line l => BitVec.ofNat 8 l.val
  | .amp a => 0x20 + BitVec.ofNat 8 a.val
  | .dev => 0x30

/-- The kinds of Table 10.3 in the order of their codes. -/
def kindTable : List NoticeKind :=
  [Kind.opn, .highz, .dead, .short, .lowz, .earth, .degraded, .nopilot, .overload, .freq, .temp, .supply, .ref, .bridge,
    .config].map .cond ++ [.learn, .restart]

/-- The content bytes of a POLL reply that delivers a notice entry (Table 10.4). -/
def entryBytes (n : Notice) (left : Nat) : List Byte :=
  let value := n.value.getD 0
  [0, BitVec.ofNat 8 left, subjectByte n.subject, codeIn kindTable n.kind,
    codeIn [.active, .clear, .learnDone, .learnFailed, .restart] n.event,
    codeIn [none, some .attributed, some .fault, some .timeout, some .spread, some .aborted, some .power, some .pin,
      some .command] n.cause,
    BitVec.ofNat 8 n.level.val,
    n.round.extractLsb' 24 8, n.round.extractLsb' 16 8, n.round.extractLsb' 8 8, n.round.extractLsb' 0 8,
    (if n.transient then 1 else 0) ||| (if n.test then 2 else 0) ||| (if n.value.isSome then 4 else 0),
    BitVec.ofNat 8 (value / 256), BitVec.ofNat 8 value]

/-- The six bytes of a READ-SUMMARY entry (Table 10.5). -/
def summaryBytes (e : SummaryEntry) : List Byte :=
  [subjectByte e.subject, codeIn [some .watching, some .held, some .off, none] e.state,
    e.active.extractLsb' 8 8, e.active.extractLsb' 0 8, e.latched.extractLsb' 8 8, e.latched.extractLsb' 0 8]

/-- The bytes of the reply of a unit to a request of a kind, with the two header bytes of Table 10.2 before its content. -/
def replyBytes (unit : Nat) (kind : Byte) (r : Reply) (content : List Byte) : List Byte :=
  frameBytes (BitVec.ofNat 8 unit + 0x80) kind
    (codeIn [.done, .clamped, .refusedArg, .refusedState, .refusedBusy, .unknownKind, .starting] r.status
      :: codeIn [.live, .frozen] r.view :: content)

/-! ## Payloads divided into items -/

/-- The value bytes of an item of a payload, where it was sent (R161). -/
def sentBytes (items : List (Nat × List Byte)) (n : Nat) : Option (List Byte) :=
  (items.find? fun it => decide (it.1 = n)).map Prod.snd

/-- The number an item carries, high byte first, where it was sent (R161). -/
def sent (items : List (Nat × List Byte)) (n : Nat) : Option Nat :=
  (sentBytes items n).map fun bs => bs.foldl (fun x b => x * 256 + b.toNat) 0

/-- A number replaced by the nearer limit of its range (R2). -/
def nearest (lo hi x : Nat) : Nat := max lo (min hi x)

/-- Whether one of the numeric fields sent, each given with its range, was replaced by a limit (R2). -/
def anyReplaced (items : List (Nat × List Byte)) (fields : List (Nat × Nat × Nat)) : Bool :=
  fields.any fun f => (sent items f.1).any fun x => decide (nearest f.2.1 f.2.2 x ≠ x)

/-- The structure of a kind (R161): every item is one of the kind's, with a length it allows, none comes twice, and the
required ones come. `lengths` says for an item which lengths it may have. -/
def Structured (items : List (Nat × List Byte)) (lengths : Nat → Nat → Prop) (required : List Nat) : Prop :=
  (∀ it ∈ items, lengths it.1 it.2.length) ∧ (items.map Prod.fst).Nodup ∧ ∀ n ∈ required, n ∈ items.map Prod.fst

/-- The items numbered from 1 on have the widths listed (Table 10.8). -/
def widths (ws : List Nat) (n len : Nat) : Prop := 1 ≤ n ∧ ws[n - 1]? = some len

/-! ## Scheduling -/

/-- How the three engines and the device phase stand together. -/
structure Scheduled (s : State) : Prop where
  /-- LCONV holds a grant exactly in GRANTED (Table 4.1, R69). -/
  granted_iff : s.seq.state = .granted ↔ s.lconv.isSome = true
  /-- SEQ is STOPPED exactly in STARTING (Table 4.1, R57). -/
  stopped_iff : s.seq.state = .stopped ↔ s.boot.phase = .starting
  /-- EBRG is IDLE in STARTING (R78). -/
  starting_idle : s.boot.phase = .starting → s.ebrg.mode = .idle
  /-- A part that runs is powered and out of reset (R167). -/
  running_powered : s.boot.phase = .running → s.poweredUp = true
  /-- An accepted RESTART awaits its soft restart in RUNNING only (R158, R170). -/
  awaited_running : s.restartAwaited = true → s.boot.phase = .running
  /-- The Load step runs in STARTING (R167, R168). -/
  loading_starting : s.boot.image = .loading → s.boot.phase = .starting
  /-- "No line has an LCONV measurement and an earth test in flight at the same time" (R81). -/
  never_meet : ∀ l, s.lineHeld l = true → s.lineInFlight ≠ some l
  /-- EBRG waits only for a line that LCONV measures (Table 5.1, R82). -/
  waiting_measured : ∀ l, s.ebrg.mode = .waiting l → s.lineInFlight = some l
  /-- A chosen line is not OFF (R80, R89). -/
  chosen_not_off : ∀ l, s.ebrg.mode.chosen = some l → (s.line l).state ≠ .off
  /-- A measured line is not OFF (R33, R62). -/
  line_not_off : ∀ l, s.lineInFlight = some l → (s.line l).state ≠ .off
  /-- A measured amplifier is not OFF (R33, R62). -/
  amp_not_off : ∀ a, s.measuring (.amp a) = true → (s.amp a).state ≠ .off
  /-- With supervision OFF no line is chosen (R88). -/
  supervised : s.ebrg.mode.chosen.isSome = true → s.cfg.earth.supervision = true

/-! ## Conditions -/

/-- The shape of a condition record (R107, R110, R121, R126). -/
structure Cond.ShapeOk (c : Cond) (voted : Bool) : Prop where
  window_le : c.window.length ≤ 8
  active_latched : c.state = .active → c.latch = true
  injection_range : ∀ n, c.injection = some n → 1 ≤ n ∧ n ≤ 16
  unvoted : voted = false → c.window = [] ∧ c.injection = none ∧ c.state ≠ .pending

/-- The clear form of a record but for its since field (R125). -/
def Cond.isCleared (c : Cond) : Prop := c.window = [] ∧ c.state = .clear ∧ c.latch = false ∧ c.injection = none

/-- The condition records agree with their windows and with the rules in force. -/
structure Judged (s : State) : Prop where
  shape : ∀ id, (s.cond id).ShapeOk id.voted
  /-- Judging a window again moves nothing (R111, R117). -/
  settled : ∀ id, id.voted = true → (s.cond id).judged (s.ruleFor id) = (s.cond id).state
  /-- A subject that is OFF holds no condition state (R3, R125). -/
  off_cleared : ∀ id, s.isOff id.subject = true → (s.cond id).isCleared
  /-- "A subject carries at most one pending injection" (R126). -/
  one_injection : ∀ a b, a.subject = b.subject → (s.cond a).injection.isSome = true →
    (s.cond b).injection.isSome = true → a = b

/-- HIGHZ and LOWZ hold nothing while a line has no reference or is learning (R118); a learning line is not OFF
(R140), and no line learns in STARTING (R131). -/
structure ReferenceGated (s : State) : Prop where
  empty : ∀ l, s.refVotes l = false → ∀ k, k = LineKind.highz ∨ k = LineKind.lowz →
    (s.cond (.line l k)).window = [] ∧ (s.cond (.line l k)).state = .clear
  learning_not_off : ∀ l : LineId, s.learn[l].isSome = true → (s.line l).state ≠ .off
  starting_none : s.boot.phase = .starting → ∀ l : LineId, s.learn[l] = none

/-! ## Queues -/

/-- "The notice queue never holds more than 32 entries, nor two entries with the same subject and kind" (R145). -/
structure NoticesOk (s : State) : Prop where
  length_le : s.nq.entries.length ≤ 32
  pairs_distinct : s.nq.entries.Pairwise fun a b => ¬(a.subject = b.subject ∧ a.kind = b.kind)

/-- The confirm queue and its credit (R66, R67, R68). -/
structure ConfirmOk (s : State) : Prop where
  length_le : s.seq.confirm.length ≤ 8
  nodup : s.seq.confirm.Nodup
  credit_le : s.seq.credit ≤ 2
  not_off : ∀ e ∈ s.seq.confirm, s.isOff e.subject = false

/-! ## Settings, learning records and the serial memory -/

/-- A number lies in a range. -/
def inRange (lo hi x : Nat) : Prop := lo ≤ x ∧ x ≤ hi

/-- A profile's numbers lie in the ranges of Table 1.6. -/
structure Profile.InRange (p : Profile) : Prop where
  high : inRange 10 900 p.high
  low : inRange 10 900 p.low
  shortLimit : inRange 1 2000 p.shortLimit
  openLimit : inRange 100 65534 p.openLimit
  ishort : inRange 100 4095 p.ishort
  vmin : inRange 10 1000 p.vmin
  imin : inRange 1 100 p.imin
  maskLevel : inRange 50 4095 p.maskLevel
  maskLimit : inRange 1 255 p.maskLimit
  earthThreshold : inRange 10 5000 p.earthThreshold

/-- Every numeric setting lies in the range its table gives (Tables 1.2, 1.5, 1.6; R17, R58, R72, R79, R160). -/
structure Settings.InRange (c : Settings) : Prop where
  zref : ∀ l : LineId, ∀ z, c.lines[l].zref = some z → inRange 1 65534 z
  overload : inRange 100 4095 c.wide.overload
  vmin : inRange 10 1000 c.wide.vmin
  freqTol : inRange 1 255 c.wide.freqTol
  profiles : ∀ i : ProfileId, c.profiles[i].InRange
  pilotD : inRange 1100 1400 c.pilotD
  ring_length : inRange 1 48 c.ring.length
  ring_count : ∀ e, c.ring.count e ≤ 2
  settle : inRange 1 15 c.scan.settle
  accum : inRange 0 7 c.scan.accum
  period : c.scan.period = 0 ∨ inRange 100 60000 c.scan.period
  freezeTime : inRange 1 255 c.scan.freezeTime
  ne : inRange 4 16 c.earth.ne
  groups_length : c.groups.length ≤ 4
  groups_range : ∀ g ∈ c.groups, inRange 0x40 0x4F g.toNat
  groups_nodup : c.groups.Nodup

/-- A learning record that waits for its next result (R131, R134, R136). -/
structure LearnRec.InRange (r : LearnRec) : Prop where
  target : inRange 4 32 r.target
  collected_lt : r.collected < r.target
  sum_range : r.collected ≤ r.sumZ ∧ r.sumZ ≤ 65534 * r.collected
  attempts_lt : r.attempts < 3 * r.target

/-- The settings of a state, every copy of them it holds (R170, R171) and the learning records lie in their ranges. -/
structure SettingsOk (s : State) : Prop where
  cfg : s.cfg.InRange
  saveCopy : ∀ copy, s.boot.saveCopy = some copy → copy.InRange
  restartDue : ∀ k, s.boot.restartDue = some k → k.settings.InRange
  restartHeld : ∀ p h k, (s.port p).held = some h → h.restarts = some k → k.settings.InRange
  learn : ∀ l : LineId, ∀ r, s.learn[l] = some r → r.InRange

/-- The serial memory is in its canonical form, and an image being written fits it (R166, R171). -/
structure MemoryOk (s : State) : Prop where
  wf : Memory.wf s.memory = true
  copy_fits : ∀ copy, s.boot.saveCopy = some copy → copy.image.length ≤ memorySize

/-! ## The fault outputs -/

/-- One output's state fields agree with its settings and the device phase (R149, R151, R152). -/
structure OutLive.Agrees (l : OutLive) (o : OutSettings) (phase : Phase) : Prop where
  pulse_iff : l.pulse.isSome = true ↔ l.state = .running ∧ o.mode = .pulsed ∧ l.unhealthy = false
  count_lt : ∀ n, l.state = .starting n → n < o.startInterval
  starting_off : phase = .starting → l.state = .off
  off_iff : phase = .running → (l.state = .off ↔ o.mode = .off)

/-- The fault outputs present the health of the installation as it stands (R149 to R152). -/
structure OutputsOk (s : State) : Prop where
  a : s.fout.a.Agrees s.cfg.outA s.boot.phase
  b : s.fout.b.Agrees s.cfg.outB s.boot.phase
  health_a : s.boot.phase = .running → s.fout.a.unhealthy = s.unhealthy s.cfg.outA
  health_b : s.boot.phase = .running → s.fout.b.unhealthy = s.unhealthy s.cfg.outB

/-- Every invariant of the model together. -/
structure Good (s : State) : Prop where
  scheduled : Scheduled s
  judged : Judged s
  gated : ReferenceGated s
  notices : NoticesOk s
  confirm : ConfirmOk s
  settings : SettingsOk s
  memory : MemoryOk s
  outputs : OutputsOk s

end Machine
end Sys2Proof
end

