-- ==== Sys2Proof/Certificates/Slice0/Obligations.lean ====
section
/-! DEFINITION. The statements for the provers. Each docstring names the rules of spec/ it rests on; OBLIGATIONS.json
lists them. A statement that rests on a choice of the model names the assumption log's entry. The model's clock, which a
timed event moves up to its instant, is such a choice wherever a statement names it (log 2). -/

open Sys2Proof Sys2Proof.Machine

/-! ## The step, the reset state and the invariants -/

/-- A step takes the command at the front of the queue and runs it with the queue's rest; on an empty queue one tick
of the reference clock passes (the model's queue and clock: assumption logs 1 and 2). -/
def Obligations.StepRunsTheFrontCommand : Prop :=
  ∀ s : State,
    (∀ c rest, s.pending = c :: rest → step s = exec c { s with pending := rest })
    ∧ (s.pending = [] → step s = .next { s with clock := s.clock + 1 })

/-- Every command completes: none ends in a fault or a refusal, in any state. -/
def Obligations.EveryCommandCompletes : Prop := ∀ (c : Instr) (s : State), ∃ t, exec c s = .next t

/-- The state after reset is the condition R167 gives from the start of a reset, with the emergency zone set empty (R1,
Table 11.1), the filtered EVAC state RELEASED (R15) and the save status IDLE (Table 11.1); that the last three hold from
the start of the reset already is deduced (log 5). That a run begins there, with cause POWER and an empty queue, is the
model's choice (logs 1 and 3). -/
def Obligations.ResetIsAHardReset : Prop :=
  let s := State.reset
  s.power = .inReset .power ∧ s.boot.phase = .starting
  ∧ s.fout.a.drive s.cfg.outA = .highImpedance ∧ s.fout.b.drive s.cfg.outB = .highImpedance
  ∧ s.pilotOn = false ∧ s.lconv = none ∧ s.seq.state = .stopped ∧ s.ebrg.mode = .idle
  ∧ s.link.frozen = none ∧ s.link.portA.inFrame = false ∧ s.link.portB.inFrame = false
  ∧ s.zones = 0 ∧ s.evac.filtered = false ∧ s.boot.save = .idle ∧ s.pending = []

/-- The reset state (some of its values are the model's choice: logs 3 and 4) meets every invariant. -/
def Obligations.ResetIsGood : Prop := Good State.reset

/-- Every step keeps LCONV, SEQ, EBRG and the device phase in agreement: among others, no line has a converter
measurement and an earth test in flight at the same time (R81), and LCONV holds a grant exactly in GRANTED (R69). -/
def Obligations.StepKeepsScheduling : Prop :=
  ∀ s t, Scheduled s → step s = .next t → Scheduled t

/-- Every step leaves each condition record in agreement with its window and the rule in force (R111, R117), an ACTIVE
condition latched (R121), an OFF subject without condition state (R125), and at most one injection on a subject
(R126). -/
def Obligations.StepKeepsConditionsJudged : Prop :=
  ∀ s t, Scheduled s → Judged s → step s = .next t → Judged t

/-- Every step keeps HIGHZ and LOWZ empty and CLEAR on a line without a reference or with a learning record (R118). -/
def Obligations.StepKeepsReferenceGate : Prop :=
  ∀ s t, Scheduled s → ReferenceGated s → step s = .next t → ReferenceGated t

/-- No step makes the notice queue hold more than 32 entries, or two of one subject and kind (R145). It holds because of how
NQ places a notice, which is stated with it (R145, R146): a notice of a subject and kind already queued updates that entry
in place, whose TRANSIENT is set where ACTIVE gives way to CLEAR and whose TRANSIENT and TEST stay set once set, the
overflow indicator left as it was; another one is appended as the youngest while there are fewer than 32 entries, and the
indicator stays; at 32 the oldest entry of the lowest level gives way to a notice of a higher level, and otherwise the
notice is discarded, the overflow indicator set in either case. -/
def Obligations.StepKeepsNoticeQueue : Prop :=
  (∀ s t, NoticesOk s → step s = .next t → NoticesOk t)
  ∧ ∀ (q : NoticeQueue) (n : Notice),
    let pair := fun e : Notice => e.subject = n.subject ∧ e.kind = n.kind
    (∀ older e younger, q.entries = older ++ e :: younger → (∀ x ∈ older, ¬pair x) → pair e →
      q.place n
        = { q with
            entries := older
              ++ { n with
                   transient := e.transient || decide (e.event = .active ∧ n.event = .clear)
                   test := e.test || n.test } :: younger })
    ∧ ((∀ x ∈ q.entries, ¬pair x) → q.entries.length < 32 → q.place n = { q with entries := q.entries ++ [n] })
    ∧ ((∀ x ∈ q.entries, ¬pair x) → 32 ≤ q.entries.length →
      ∀ older e younger, q.entries = older ++ e :: younger → (∀ x ∈ q.entries, e.level ≤ x.level) →
        (∀ x ∈ older, x.level ≠ e.level) →
          q.place n
            = { entries := if e.level < n.level then older ++ younger ++ [n] else q.entries, overflow := true })

/-- Every step keeps the confirm queue at no more than 8 entries, no subject twice, none of them OFF, and the confirm
credit at no more than 2 (R66, R67, R68). -/
def Obligations.StepKeepsConfirmQueue : Prop :=
  ∀ s t, Scheduled s → ConfirmOk s → step s = .next t → ConfirmOk t

/-- Every step keeps every numeric setting, and every learning record, in the range its table gives: requests clamp
(R2), the load clamps or fails (R168), and a learned reference is never out of range (R52). -/
def Obligations.StepKeepsSettingsInRange : Prop :=
  ∀ s t, SettingsOk s → step s = .next t → SettingsOk t

/-- Every step keeps the serial memory in its canonical form, the model's own (log 8), within its 2 KB (R166). -/
def Obligations.StepKeepsMemoryForm : Prop :=
  ∀ s t, SettingsOk s → MemoryOk s → step s = .next t → MemoryOk t

/-- Every step leaves the fault outputs in agreement with their settings, the device phase and, in RUNNING, the health
of the installation as it then stands (R149 to R152). That an output's state is OFF while the phase is STARTING is the
model's choice (log 16). -/
def Obligations.StepKeepsOutputsInAgreement : Prop :=
  ∀ s t, Scheduled s → OutputsOk s → step s = .next t → OutputsOk t

/-! ## Frames and replies (Chapter 10) -/

/-- A receiver that hears the bytes of a frame takes that frame: the lead, the length, the byte order and the CRC-16
agree with one another (Table 10.1, R155). A reply whose layout the spec gives is such a frame: the unit address with 0x80
added, the kind of its request, the status and view bytes of Table 10.2, and then no content, the entry or the EMPTY of
Table 10.4, or the 33 entries of Table 10.5, 200 payload bytes in all (R158, R161). The other contents are lists of items
without a layout, and have no bytes. The reading and writing of bytes stand beside the commands: no command uses them,
since a request command brings its whole frame and a held frame its reply (log 13). -/
def Obligations.FrameIsHeardAsSent : Prop :=
  (∀ (addr kind : Byte) (payload : List Byte), payload.length ≤ 200 →
    hearFrame (frameBytes addr kind payload) = .frame { addr := addr, kind := kind, payload := payload })
  ∧ (∀ (r : Reply) (unit : Nat) (kind : Byte),
    (r.content = .empty → r.frame unit kind = some (replyBytes unit kind r []))
    ∧ (∀ left n, r.content = .pollEntry left n → r.frame unit kind = some (replyBytes unit kind r (entryBytes n left)))
    ∧ (∀ left, r.content = .pollEmpty left →
        r.frame unit kind = some (replyBytes unit kind r [1, BitVec.ofNat 8 left]))
    ∧ ∀ es, r.content = .summary es → r.frame unit kind = some (replyBytes unit kind r (es.flatMap summaryBytes)))
  ∧ ∀ s : State, (allSubjects.flatMap fun x => summaryBytes (summaryEntry s x)).length = 198

/-- The bytes of a request's frame spell that request's command, whatever its kind (Table 10.6, R155). The port and
the world's choice of order come with the bytes. The reading of bytes stands beside the commands: no command uses it
(log 13). -/
def Obligations.FrameSpellsItsCommand : Prop :=
  ∀ (c : Instr) (p : Port) (dest kind : Byte) (payload : List Byte) (order : RaceOrder),
    c.request = some (p, dest, kind, payload) → c.wellFormed = true →
      (∀ d pl o, c = .setLine p d pl o ∨ c = .setAmp p d pl o ∨ c = .setPilot p d pl o → o = order) →
        commandOfBytes p order (frameBytes dest kind payload) = some c

/-- A payload divides into the items it was made of: each an item byte, a length byte and that many value bytes, in any
order and number (R161). -/
def Obligations.PayloadDividesIntoItsItems : Prop :=
  ∀ items : List (Byte × List Byte), (∀ it ∈ items, it.2.length ≤ 255) →
    let bytes := items.flatMap fun it => it.1 :: BitVec.ofNat 8 it.2.length :: it.2
    divideItems bytes.length bytes = some (items.map fun it => (it.1.toNat, it.2))

/-- In STARTING every unit-addressed request but IDENTIFY is answered STARTING and changes nothing else; in RUNNING a
kind that Table 10.6 does not name is answered UNKNOWN-KIND and changes nothing else (R158). -/
def Obligations.StartingAndUnknownKindsAreAnswered : Prop :=
  (∀ (c : Instr) (s : State) (p : Port) (dest kind : Byte) (payload : List Byte),
    c.request = some (p, dest, kind, payload) → c.wellFormed = true → kind ≠ 0x01 →
    s.poweredUp = true → s.boot.phase = .starting → (s.port p).held = none → dest.toNat = s.straps.unit →
      exec c s = .next (s.answered p kind { status := .starting, view := .live, content := .empty } none))
  ∧ ∀ (s : State) (p : Port) (dest kind : Byte) (payload : List Byte),
    s.takes p dest → kindNamed kind = false → payload.length ≤ 200 →
      exec (.unknownKind p dest kind payload) s
        = .next (s.answered p kind { status := .unknownKind, view := .live, content := .empty } none)

/-- A frame for another unit, for a group the part is not in, or of a kind that a group or broadcast frame cannot
carry, leaves the receiver hunting and changes nothing else; so does every group or broadcast frame in STARTING
(R156). -/
def Obligations.IgnoredFramesChangeNothing : Prop :=
  ∀ (s : State) (p : Port) (dest kind : Byte),
    s.hears p = true → dest.toNat ≠ s.straps.unit →
    ((dest ≠ 0x00 ∧ ¬(0x40 ≤ dest.toNat ∧ dest.toNat ≤ 0x4F ∧ dest ∈ s.cfg.groups))
      ∨ kind ∉ [(0x44 : Byte), 0x46, 0x47, 0x48, 0x4A] ∨ s.boot.phase = .starting) →
    let t := s.setPort p { s.port p with inFrame := false }
    exec (.frameIgnored p dest kind) s = .next t
    ∧ ∀ (c : Instr) (payload : List Byte), c.request = some (p, dest, kind, payload) → c.wellFormed = true →
        exec c s = .next t

/-- A frame for this part that arrives while the port already holds one is dropped and counted, whatever its kind, and
the held frame stays (R157); while the port sends its reply it hears nothing (R155). -/
def Obligations.ReceiveOverrunIsDropped : Prop :=
  ∀ (s : State) (p : Port) (dest kind : Byte) (h : HeldFrame),
    s.poweredUp = true → (s.port p).held = some h →
    (dest.toNat = s.straps.unit
      ∨ (s.multicastAddress dest = true ∧ multicastKind kind = true ∧ s.boot.phase = .running)) →
    let t := if h.sending then s
      else s.setPort p { s.port p with inFrame := false, dropped := min 255 ((s.port p).dropped + 1) }
    exec (.receiveOverrun p dest kind) s = .next t
    ∧ ∀ (c : Instr) (payload : List Byte), c.request = some (p, dest, kind, payload) → c.wellFormed = true →
        exec c s = .next t

/-- A heard 0xC3 starts a frame; a frame that fails its length or CRC check, or is broken off by a gap, is dropped, and
a drop adds 1 to the port's dropped-frame count, which stops at 255, and leaves the receiver hunting (R155). That a gap is
taken while the port sends is the model's choice (log 10), and that a part in a hard reset or without a supply hears
nothing is deduced (log 5). -/
def Obligations.DroppedFramesAreCounted : Prop :=
  ∀ (s : State) (p : Port),
    let dropped := s.setPort p { s.port p with inFrame := false, dropped := min 255 ((s.port p).dropped + 1) }
    (s.hears p = true →
      exec (.frameStart p) s = .next (s.setPort p { s.port p with inFrame := true })
      ∧ ∀ why, exec (.frameDropped p why) s = .next dropped)
    ∧ (s.hears p = false → exec (.frameStart p) s = .next s ∧ ∀ why, exec (.frameDropped p why) s = .next s)
    ∧ (s.poweredUp = true → (s.port p).inFrame = true → exec (.frameGapTimeout p) s = .next dropped)
    ∧ ((s.port p).inFrame = false → exec (.frameGapTimeout p) s = .next s)

/-- A reply begins no sooner than 0.5 ms (12 288 reference ticks) after its request; a frame is held until the last
byte of its reply has been sent, and the reply to an accepted RESTART makes its soft restart due (R157, R170). The clock
and the field that holds a soft restart that is due are the model's (logs 2 and 7), and so is the release of a frame whose
reply was not begun (log 10). -/
def Obligations.RepliesAreSentAndReleased : Prop :=
  ∀ (s : State) (p : Port) (h : HeldFrame), (s.port p).held = some h →
    (h.sending = false →
      exec (.replyBegin p) s
        = .next ({ s with clock := max s.clock (h.takenAt + 12288) }.setPort p
            { s.port p with held := some { h with sending := true } }))
    ∧ exec (.replySent p) s
        = .next ({ s with boot := { s.boot with
              restartDue := match s.boot.restartDue with | some k => some k | none => h.restarts } }.setPort p
            { s.port p with held := none })

/-- In RUNNING a request whose payload lacks the structure of its kind, or carries a selector or an enumerated value
out of its range, is answered REFUSED-ARG and changes nothing but its port (R2, R161), and so is IDENTIFY with a payload in
either phase (R158, R172). The bad payloads are those that
the parsers of the model refuse; FieldsAreCheckedAndClamped says which they are for the setting requests. The view byte
FROZEN on a refused READ-LINE, READ-AMP, READ-DEVICE or READ-SUMMARY is deduced (log 11). -/
def Obligations.BadPayloadIsRefused : Prop :=
  ∀ (s : State) (p : Port) (dest : Byte) (pl : List Byte) (order : RaceOrder), pl.length ≤ 200 →
    let refused := fun (kind : Byte) (v : View) =>
      s.answered p kind { status := .refusedArg, view := v, content := .empty } none
    (s.poweredUp = true → (s.port p).held = none → dest.toNat = s.straps.unit → pl ≠ [] →
      exec (.identify p dest pl) s = .next (refused 0x01 .live))
    ∧ (s.takes p dest → (pl ≠ [] →
      exec (.status p dest pl) s = .next (refused 0x02 .live)
      ∧ exec (.readDevice p dest pl) s = .next (refused 0x06 s.view)
      ∧ exec (.readSummary p dest pl) s = .next (refused 0x07 s.view)
      ∧ exec (.readScan p dest pl) s = .next (refused 0x09 .live)
      ∧ exec (.readOutputs p dest pl) s = .next (refused 0x0A .live)
      ∧ exec (.freeze p dest pl) s = .next (refused 0x47 .live)
      ∧ exec (.unfreeze p dest pl) s = .next (refused 0x48 .live)
      ∧ exec (.saveImage p dest pl) s = .next (refused 0x49 .live)
      ∧ exec (.restart p dest pl) s = .next (refused 0x4A .live))
    ∧ ((∀ b : Byte, b.toNat < 24 → pl ≠ [b]) → exec (.readLine p dest pl) s = .next (refused 0x04 s.view))
    ∧ ((∀ b : Byte, b.toNat < 8 → pl ≠ [b]) → exec (.readAmp p dest pl) s = .next (refused 0x05 s.view))
    ∧ ((∀ b : Byte, b.toNat < 4 → pl ≠ [b]) → exec (.readProfile p dest pl) s = .next (refused 0x08 .live))
    ∧ (parseSetLine pl = none → exec (.setLine p dest pl order) s = .next (refused 0x21 .live))
    ∧ (parseSetAmp pl = none → exec (.setAmp p dest pl order) s = .next (refused 0x22 .live))
    ∧ (parseSetAmpWide pl = none → exec (.setAmpWide p dest pl) s = .next (refused 0x23 .live))
    ∧ (parseSetProfile pl = none → exec (.setProfile p dest pl) s = .next (refused 0x24 .live))
    ∧ (parseSetLevels pl = none → exec (.setLevels p dest pl) s = .next (refused 0x25 .live))
    ∧ (parseSetScan pl = none → exec (.setScan p dest pl) s = .next (refused 0x26 .live))
    ∧ (parseSetPilot pl = none → exec (.setPilot p dest pl order) s = .next (refused 0x27 .live))
    ∧ (parseSetEarth pl = none → exec (.setEarth p dest pl) s = .next (refused 0x28 .live))
    ∧ (parseSetOutput pl = none → exec (.setOutput p dest pl) s = .next (refused 0x29 .live))
    ∧ (parseSetGroups pl = none → exec (.setGroups p dest pl) s = .next (refused 0x2A .live))
    ∧ (parseLearn pl = none → exec (.learn p dest pl) s = .next (refused 0x41 .live))
    ∧ (parseAbortLearn pl = none → exec (.abortLearn p dest pl) s = .next (refused 0x42 .live))
    ∧ (parseTestInject pl = none → exec (.testInject p dest pl) s = .next (refused 0x43 .live))
    ∧ (parseClearLatch pl = none → exec (.clearLatch p dest pl) s = .next (refused 0x44 .live))
    ∧ (parsePoll pl = none → exec (.poll p dest pl) s = .next (refused 0x03 .live))
    ∧ (parseClearMinmax pl = none → exec (.clearMinmax p dest pl) s = .next (refused 0x45 .live))
    ∧ (parseEmergency pl = none → exec (.emergency p dest pl) s = .next (refused 0x46 .live)))

/-- What a payload parses to, for every request whose payload is made of items, the items in any order (R2, R161, Tables
1.6 and 10.8): a payload that does not divide into items, an item the kind does not have, one of another length or sent
twice, a required one missing, no field to write, a selector out of range or an enumerated value outside its set refuses
the request; a numeric field outside its range takes the nearer limit and the reply is CLAMPED; a field not sent is absent.
SET-LINE's zref is a value or the mark CLEAR (R4); SET-LEVELS takes pairs of distinct kinds (R13); SET-SCAN a ring of 1 to
48 entries with no subject three times, or the DEFAULT mark, not both, and a period of 0 or 100 to 60 000 (R72); TEST-INJECT
a voted condition of its subject (R126); CLEAR-LATCH and CLEAR-MINMAX name all without an item (R56, R122); SET-GROUPS up to
four distinct group addresses (R160). -/
def Obligations.FieldsAreCheckedAndClamped : Prop :=
  ∀ pl : List Byte,
    (divideItems pl.length pl = none →
      parseSetLine pl = none ∧ parseSetAmp pl = none ∧ parseSetAmpWide pl = none ∧ parseSetProfile pl = none
      ∧ parseSetLevels pl = none ∧ parseSetScan pl = none ∧ parseSetPilot pl = none ∧ parseSetEarth pl = none
      ∧ parseSetOutput pl = none ∧ parseSetGroups pl = none ∧ parseLearn pl = none ∧ parseAbortLearn pl = none
      ∧ parseTestInject pl = none ∧ parseClearLatch pl = none ∧ parseClearMinmax pl = none ∧ parseEmergency pl = none
      ∧ parsePoll pl = none)
    ∧ ∀ items, divideItems pl.length pl = some items →
      let num := sent items
      let rules := fun n => (num n).map fun x => [VoteRule.r1oo1, .r2oo3, .r4oo8, .r7oo8][x]?
      let states := fun n => (num n).map fun x => [SubjState.off, .watching, .held][x]?
      let yes := fun n => (num n).map fun x => [false, true][x]?
      let limited := fun n lo hi => (num n).map (nearest lo hi)
      let subjectCode := fun x : Subject => match x with | .line l => l.val | .amp a => 0x20 + a.val | .dev => 0x30
      (∀ c, parseSetLine pl = some c ↔
        Structured items (fun n len => widths [1, 1, 1, 1, 1] n len ∨ n = 6 ∧ (len = 2 ∨ len = 0)) [1]
        ∧ 2 ≤ items.length ∧ num 1 = some c.line.val ∧ states 2 = c.state.map some
        ∧ num 3 = c.amp.map Fin.val ∧ num 4 = c.zone.map Fin.val ∧ num 5 = c.profile.map Fin.val
        ∧ c.zref = (sentBytes items 6).map (fun bs => if bs = [] then none else limited 6 1 65534)
        ∧ c.clamped = (decide (sentBytes items 6 ≠ some []) && anyReplaced items [(6, 1, 65534)]))
      ∧ (∀ c, parseSetAmp pl = some c ↔
        Structured items (widths [1, 1, 1]) [1] ∧ 2 ≤ items.length ∧ num 1 = some c.amp.val
        ∧ states 2 = c.state.map some
        ∧ ((num 3).map fun x => [Polarity.normallyOpen, .normallyClosed][x]?) = c.polarity.map some)
      ∧ (∀ c, parseSetAmpWide pl = some c ↔
        Structured items (widths [1, 2, 2, 1]) [] ∧ 1 ≤ items.length ∧ rules 1 = c.rule.map some
        ∧ c.overload = limited 2 100 4095 ∧ c.vmin = limited 3 10 1000 ∧ c.freqTol = limited 4 1 255
        ∧ c.clamped = anyReplaced items [(2, 100, 4095), (3, 10, 1000), (4, 1, 255)])
      ∧ (∀ c, parseSetProfile pl = some c ↔
        Structured items (widths [1, 1, 1, 2, 2, 2, 2, 2, 2, 1, 2, 1, 2]) [1] ∧ 2 ≤ items.length
        ∧ num 1 = some c.profile.val ∧ rules 2 = c.impRule.map some ∧ rules 3 = c.earthRule.map some
        ∧ c.high = limited 4 10 900 ∧ c.low = limited 5 10 900 ∧ c.shortLimit = limited 6 1 2000
        ∧ c.openLimit = limited 7 100 65534 ∧ c.ishort = limited 8 100 4095 ∧ c.vmin = limited 9 10 1000
        ∧ c.imin = limited 10 1 100 ∧ c.maskLevel = limited 11 50 4095 ∧ c.maskLimit = limited 12 1 255
        ∧ c.earthThreshold = limited 13 10 5000
        ∧ c.clamped = anyReplaced items
            [(4, 10, 900), (5, 10, 900), (6, 1, 2000), (7, 100, 65534), (8, 100, 4095), (9, 10, 1000), (10, 1, 100),
             (11, 50, 4095), (12, 1, 255), (13, 10, 5000)])
      ∧ (∀ c, parseSetLevels pl = some c ↔
        Structured items (fun n len => n = 1 ∧ len % 2 = 0) []
        ∧ ∃ pairs : List (Kind × Byte), pairs ≠ [] ∧ (pairs.map Prod.fst).Nodup
          ∧ sentBytes items 1 = some (pairs.flatMap fun x => [BitVec.ofNat 8 x.1.code, x.2])
          ∧ c.pairs.map (fun x => (x.1, x.2.val)) = pairs.map (fun x => (x.1, min 7 x.2.toNat))
          ∧ c.clamped = pairs.any fun x => decide (7 < x.2.toNat))
      ∧ (∀ c, parseSetScan pl = some c ↔
        Structured items (fun n len => n = 1 ∨ n = 2 ∧ len = 0 ∨ 3 ≤ n ∧ widths [1, 1, 2, 1] (n - 2) len) []
        ∧ 1 ≤ items.length
        ∧ (sentBytes items 1).map (fun bs => bs.map BitVec.toNat)
            = c.ring.map (fun ring => ring.map fun e => subjectCode e.subject)
        ∧ (∀ ring, c.ring = some ring → 1 ≤ ring.length ∧ ring.length ≤ 48 ∧ ∀ e, ring.count e ≤ 2)
        ∧ c.defaultRing = (sentBytes items 2).isSome ∧ ¬(c.ring.isSome = true ∧ c.defaultRing = true)
        ∧ c.settle = limited 3 1 15 ∧ c.accum = limited 4 0 7
        ∧ c.period = (num 5).map (fun x => if x = 0 then 0 else nearest 100 60000 x) ∧ c.freezeTime = limited 6 1 255
        ∧ c.clamped = (anyReplaced items [(3, 1, 15), (4, 0, 7), (6, 1, 255)]
            || (decide (num 5 ≠ some 0) && anyReplaced items [(5, 100, 60000)])))
      ∧ (∀ d clamped, parseSetPilot pl = some (d, clamped) ↔
        Structured items (widths [2]) [] ∧ limited 1 1100 1400 = some d
        ∧ clamped = anyReplaced items [(1, 1100, 1400)])
      ∧ (∀ c, parseSetEarth pl = some c ↔
        Structured items (widths [1, 2, 1]) [] ∧ 1 ≤ items.length
        ∧ ((num 1).map fun x => [true, false][x]?) = c.supervision.map some
        ∧ num 2 = c.soak.map SoakTime.ms ∧ c.ne = limited 3 4 16 ∧ c.clamped = anyReplaced items [(3, 4, 16)])
      ∧ (∀ c, parseSetOutput pl = some c ↔
        Structured items (widths [1, 1, 1, 1, 1, 1]) [1] ∧ 2 ≤ items.length
        ∧ num 1 = some (match c.out with | .fltA => 0 | .fltB => 1)
        ∧ ((num 2).map fun x => [OutMode.off, .static, .pulsed][x]?) = c.mode.map some
        ∧ num 3 = c.mask.map BitVec.toNat ∧ yes 4 = c.invert.map some ∧ yes 5 = c.latched.map some
        ∧ yes 6 = c.short.map some)
      ∧ (∀ gs, parseSetGroups pl = some gs ↔
        Structured items (fun n _ => n = 1) [] ∧ sentBytes items 1 = some gs ∧ gs.length ≤ 4
        ∧ (∀ g ∈ gs, 0x40 ≤ g.toNat ∧ g.toNat ≤ 0x4F) ∧ gs.Nodup)
      ∧ (∀ l m clamped, parseLearn pl = some (l, m, clamped) ↔
        Structured items (widths [1, 1]) [1] ∧ num 1 = some l.val ∧ m = (limited 2 4 32).getD 16
        ∧ clamped = anyReplaced items [(2, 4, 32)])
      ∧ (∀ l, parseAbortLearn pl = some l ↔ Structured items (widths [1]) [1] ∧ num 1 = some l.val)
      ∧ (∀ c, parseTestInject pl = some c ↔
        Structured items (widths [1, 1, 1]) [1, 2, 3] ∧ num 1 = some (subjectCode c.subject)
        ∧ c.cond.subject = c.subject ∧ c.cond.voted = true ∧ num 2 = some c.cond.kind.code ∧ num 3 = some c.count)
      ∧ (∀ xs, parseClearLatch pl = some xs ↔
        Structured items (widths [1]) []
        ∧ match num 1 with
          | none => xs = allSubjects
          | some x => ∃ subject, subjectCode subject = x ∧ xs = [subject])
      ∧ (∀ ls, parseClearMinmax pl = some ls ↔
        Structured items (widths [1]) []
        ∧ match num 1 with
          | none => ls = List.finRange 24
          | some x => ∃ l : LineId, l.val = x ∧ ls = [l])
      ∧ (∀ zones, parseEmergency pl = some zones ↔
        Structured items (widths [2]) [1] ∧ num 1 = some (BitVec.toNat zones))
      ∧ (∀ minimum, parsePoll pl = some minimum ↔
        Structured items (widths [1]) [] ∧ (num 1).getD 0 = minimum.val)

/-- The stored image: settings in range, written out in the layout of R166, are read back as the same settings; an
image written to the serial memory loads whole (R166, R168). -/
def Obligations.ImageLoadsAsSaved : Prop :=
  ∀ c : Settings, c.InRange →
    parseSettings c.bytes = some c
    ∧ ∀ mem, Memory.wf mem = true → loadImage (writeBytes mem 0 c.image) = some c

/-! ## Requests that read -/

/-- READ-LINE, READ-AMP, READ-DEVICE and READ-SUMMARY answer from the frozen copy while the view is in force and from the
live records otherwise, report the live items live, say which in the view byte, and change nothing but their port
(R37, R92, R105, R130, R158, R163, R164). READ-SUMMARY brings the fields and bits of Table 10.5; FrameIsHeardAsSent gives
their bytes. That the time since the bias was applied is cut down to whole milliseconds is the model's choice (log 18), and
so is the ascending order of the lines an amplifier feeds (log 21). -/
def Obligations.RecordReadsAreServed : Prop :=
  ∀ (s : State) (p : Port) (dest : Byte), s.takes p dest →
    let r := match s.link.frozen with | some f => f.view | none => s.recs
    let v := s.view
    (∀ l : LineId, exec (.readLine p dest [BitVec.ofNat 8 l.val]) s
      = .next (s.answered p 0x04
          { status := .done, view := v, content := .line
              { entry := s.cfg.lines[l], emergency := s.lineInEmergency l, result := r.lineRes[l]
                earth := r.earthRes[l], minMax := r.minMax[l], conds := r.lineConds[l]
                maskedRun := r.maskedRun[l], learning := s.learn[l] } } none))
    ∧ (∀ a : AmpId, exec (.readAmp p dest [BitVec.ofNat 8 a.val]) s
      = .next (s.answered p 0x05
          { status := .done, view := v, content := .amp
              { entry := s.cfg.amps[a], result := r.ampRes[a], conds := r.ampConds[a], firstCount := s.firstCount[a]
                emergency := s.ampInEmergency a
                fed := (allLines.filter fun l => decide ((s.line l).amp = a)).map fun l =>
                  (l, s.noPilot a && decide ((s.line l).state ≠ .off)) } } none))
    ∧ exec (.readDevice p dest []) s
      = .next (s.answered p 0x06
          { status := .done, view := v, content := .device
              { lconv := match s.lconv with
                  | none => .idle
                  | some m => if m.settled < m.settle then .settling else .sampling
                meas := s.lconv.map fun m =>
                  { subject := m.subject, settle := m.settle, sample := m.sample
                    blocksEnded := m.settled + m.sampled, v := m.v }
                pilotD := s.cfg.pilotD, pilotHz := (24576000, s.cfg.pilotD), refRes := r.refRes
                earth := s.cfg.earth, ebrg := s.ebrg.mode.name, chosen := s.ebrg.mode.chosen
                test := match s.ebrg.mode with
                  | .soaking t | .measuring t => some
                      { soakMs := t.soak.ms, ne := t.ne, elapsedMs := (s.clock - t.biasOn) / 24576, blocks := t.blocks }
                  | .idle | .waiting _ => none
                walk := s.ebrg.walk, lastBias := s.ebrg.lastBias, conds := r.devConds, wide := s.cfg.wide
                levels := s.cfg.levels, groups := s.cfg.groups } } none)
    ∧ exec (.readSummary p dest []) s
      = .next (s.answered p 0x07
          { status := .done, view := v, content := .summary (allSubjects.map (summaryEntry s)) } none)
    ∧ allSubjects.length = 33
    ∧ ∀ x, (summaryEntry s x).subject = x ∧ (summaryEntry s x).state = s.subjState x
        ∧ ∀ n, ((summaryEntry s x).active.getLsbD n = true ↔
                  ∃ id ∈ condsOf x, id.kind.code = n ∧ (r.cond id).state = .active)
            ∧ ((summaryEntry s x).latched.getLsbD n = true ↔
                  ∃ id ∈ condsOf x, id.kind.code = n ∧ (r.cond id).latch = true)

/-- IDENTIFY answers in full in either phase (R172); READ-PROFILE, READ-SCAN and READ-OUTPUTS answer live whether or not
a freeze is in force (R76, R154, R161, R164). None changes anything but its port. That a reply, with the drive of a pulsed
pin, is formed when its request is taken is deduced (log 11), and that the time since the round start is cut down to whole
milliseconds is the model's choice (log 18); the order in which READ-OUTPUTS lists the offending subjects is left open
(log 21). -/
def Obligations.LiveReadsAreServed : Prop :=
  ∀ (s : State) (p : Port) (dest : Byte),
    (s.poweredUp = true → (s.port p).held = none → dest.toNat = s.straps.unit →
      exec (.identify p dest []) s
        = .next (s.answered p 0x01
            { status := .done, view := .live
              content := .identity 0x4A5A 2408 3 s.straps.unit s.straps.source s.boot.image } none))
    ∧ (s.takes p dest →
        (∀ i : ProfileId, exec (.readProfile p dest [BitVec.ofNat 8 i.val]) s
          = .next (s.answered p 0x08
              { status := .done, view := .live, content := .profile s.cfg.profiles[i] } none))
        ∧ exec (.readScan p dest []) s
          = .next (s.answered p 0x09
              { status := .done, view := .live, content := .scan
                  { form := s.cfg.form, ring := s.cfg.ring, rebuildPending := s.seq.rebuildPending
                    pointer := s.seq.pointer, skips := s.seq.skips, state := s.seq.state, round := s.seq.round
                    elapsedMs := (s.clock - s.seq.roundStart) / 24576, periodInUse := s.seq.periodInUse
                    scan := s.cfg.scan, sampleBlocks := 4 * (s.cfg.scan.accum + 1)
                    confirm := s.seq.confirm.map fun e => (e, !s.isOff e.subject && !s.entryHeld e)
                    credit := s.seq.credit, stats := s.seq.stats } } none)
        ∧ exec (.readOutputs p dest []) s
          = .next (s.answered p 0x0A
              { status := .done, view := .live
                content := .outputs (outputReport s .fltA) (outputReport s .fltB) } none)
        ∧ ∀ o, let l := s.fout.get o
            (outputReport s o).settings = s.cfg.out o ∧ (outputReport s o).state = l.state
            ∧ (outputReport s o).unhealthy = l.unhealthy
            ∧ (outputReport s o).drive = (match l.state with
                | .off | .starting _ => .highImpedance
                | .running =>
                  if l.unhealthy = true ∨ ((s.cfg.out o).mode = .pulsed ∧ l.pulse.map Pulse.asserted = some true)
                  then .asserted else .released)
            ∧ (l.unhealthy = true → ∀ x k, (∃ ks, (x, ks) ∈ (outputReport s o).offenders ∧ k ∈ ks) ↔
                s.counted x = true ∧ ∃ id, id.subject = x ∧ id.kind = k ∧ maskHolds (s.cfg.out o).mask k = true
                  ∧ (if (s.cfg.out o).latched then (s.cond id).latch = true else (s.cond id).state = .active)))

/-- STATUS reports its items from the live state and clears, as the reply is formed, the overflow indicator, both
dropped-frame counts and the freeze-expired indicator (R162); it changes nothing else but its port. That the items, the
time left among them, are formed and cleared when the request is taken is deduced (log 11), and that the time left is
absent where no view is in force is the model's choice (log 20). -/
def Obligations.StatusReportsAndClears : Prop :=
  ∀ (s : State) (p : Port) (dest : Byte), s.takes p dest →
    let cleared : State :=
      { s with
        nq := { s.nq with overflow := false }
        link := { s.link with
          portA := { s.link.portA with dropped := 0 }
          portB := { s.link.portB with dropped := 0 }
          freezeExpired := false } }
    exec (.status p dest []) s
      = .next (cleared.answered p 0x02
          { status := .done, view := .live, content := .status
              { phase := .running, save := s.boot.save, changeCounter := s.link.changeCounter
                entries := s.nq.entries.length, overflow := s.nq.overflow, droppedA := s.link.portA.dropped
                droppedB := s.link.portB.dropped, frozen := s.link.frozen.isSome
                timeLeft := s.link.frozen.map fun f => (f.deadline - s.clock + 2457599) / 2457600
                freezeExpired := s.link.freezeExpired, zones := s.zones, evac := s.evac.filtered
                ref := (s.cond (.dev .ref)).state, bridge := (s.cond (.dev .bridge)).state
                config := (s.cond (.dev .config)).state } } none)

/-- POLL (R147): the minimum level, 0 when absent and refused above 7; the entry of the highest level at or above it,
the oldest of that level, is delivered with the number left and removed; EMPTY with the number in the queue where
there is none; STARTING in STARTING; ignored when sent to a group or to the broadcast address. -/
def Obligations.PollDeliversTheBestEntry : Prop :=
  parsePoll [] = some 0
  ∧ (∀ b : Byte, parsePoll [1, 1, b] = if h : b.toNat < 8 then some ⟨b.toNat, h⟩ else none)
  ∧ ∀ (s : State) (p : Port) (dest : Byte) (pl : List Byte), pl.length ≤ 200 →
    (s.takes p dest →
      (parsePoll pl = none → exec (.poll p dest pl) s
        = .next (s.answered p 0x03 { status := .refusedArg, view := .live, content := .empty } none))
      ∧ ∀ minimum, parsePoll pl = some minimum →
        (∀ older n younger, s.nq.entries = older ++ n :: younger → minimum ≤ n.level →
          (∀ e ∈ s.nq.entries, minimum ≤ e.level → e.level ≤ n.level) → (∀ e ∈ older, e.level ≠ n.level) →
            exec (.poll p dest pl) s
              = .next ({ s with nq := { s.nq with entries := older ++ younger } }.answered p 0x03
                  { status := .done, view := .live
                    content := .pollEntry (older.length + younger.length) n } none))
        ∧ ((∀ e ∈ s.nq.entries, ¬minimum ≤ e.level) →
            exec (.poll p dest pl) s
              = .next (s.answered p 0x03
                  { status := .done, view := .live, content := .pollEmpty s.nq.entries.length } none)))
    ∧ (s.poweredUp = true → s.boot.phase = .starting → (s.port p).held = none → dest.toNat = s.straps.unit →
        exec (.poll p dest pl) s
          = .next (s.answered p 0x03 { status := .starting, view := .live, content := .empty } none))
    ∧ (s.takesMulti p dest → exec (.poll p dest pl) s = .next (s.setPort p { s.port p with inFrame := false }))

/-! ## Setting requests -/

/-- The change counter (R159): no command but an accepted setting request advances it, by 1 and from 255 to 1, and no
command but a restart sets it to 0; an accepted setting request (DONE or CLAMPED) does advance it, and a refused one
leaves it. -/
def Obligations.ChangeCounterCountsAcceptedSettings : Prop :=
  (∀ c s t, exec c s = .next t →
    t.link.changeCounter = s.link.changeCounter
    ∨ (c.isSetting = true ∧ t.link.changeCounter = s.counterAfter)
    ∨ (c.isRestart = true ∧ t.link.changeCounter = 0))
  ∧ ∀ (c : Instr) (s t : State) (p : Port) (dest kind : Byte) (pl : List Byte) (h : HeldFrame),
    c.isSetting = true → c.request = some (p, dest, kind, pl) → pl.length ≤ 200 → s.takes p dest →
    exec c s = .next t → (t.port p).held = some h →
      (h.reply.status = .done ∨ h.reply.status = .clamped → t.link.changeCounter = s.counterAfter)
      ∧ (h.reply.status ≠ .done → h.reply.status ≠ .clamped → t.link.changeCounter = s.link.changeCounter)

/-- SET-LINE (R2, R4): the fields sent are written together, the others stay, the reply carries the entry as written and
the change counter advances; a zref for a learning line is refused with REFUSED-BUSY and nothing is written. The line's
reactions, in the order of log 12: set OFF it holds nothing (R5, R125); released from HELD out of emergency its ACTIVE
conditions are announced (R123); a written amp attributes DEAD where the amplifier named has NOPILOT ACTIVE, and sets the
rebuild mark under form DEFAULT (R60, R103); HELD subjects that enter emergency announce their ACTIVE conditions (R16,
R124); a profile with other rules re-evaluates the conditions whose rule differs (R6, R104, R117); a zref that differs, or
CLEAR, empties HIGHZ and LOWZ, HIGHZ's notice first (log 19), and an equal one leaves them (R7, R118). An IDLE bridge
chooses when a line leaves OFF (R80). FOUT is told at each change of a state field or of emergency membership and at each
entry into ACTIVE and exit from it, in turn, a PULSED output that becomes HEALTHY beginning a new period (R111, R150, R151).
When a line is set OFF, its measurement, test or wait ends, and EBRG's act and SEQ's
grant decision follow in the order given (R33, R69, R82, R89), and a round that ends counts in FOUT. Result records, every other line's conditions and
learning, every amplifier's and DEV's conditions, the other settings and the rest of the part stay (the ring may be
rebuilt where setting the measured line OFF ends the round). -/
def Obligations.SetLineWritesTheEntry : Prop :=
  ∀ (s : State) (p : Port) (dest : Byte) (pl : List Byte) (order : RaceOrder) (c : LineChange),
    s.takes p dest → pl.length ≤ 200 → parseSetLine pl = some c →
    let old := s.cfg.lines[c.line]
    let new : LineEntry :=
      { state := c.state.getD old.state, amp := c.amp.getD old.amp, zone := c.zone.getD old.zone
        profile := c.profile.getD old.profile, zref := c.zref.getD old.zref }
    (s.learn[c.line].isSome = true → c.zref.isSome = true →
      exec (.setLine p dest pl order) s
        = .next (s.answered p 0x21 { status := .refusedBusy, view := .live, content := .empty } none))
    ∧ ((s.learn[c.line] = none ∨ c.zref = none) →
      ∃ t told, exec (.setLine p dest pl order) s = .next t
        ∧ t.cfg = { s.cfg with lines := s.cfg.lines.set c.line new, ring := t.cfg.ring }
        ∧ (s.measuring (.line c.line) = false → t.cfg.ring = s.cfg.ring)
        ∧ t.link.changeCounter = s.counterAfter
        ∧ t.holds p 0x21 { status := if c.clamped then .clamped else .done, view := .live
                           content := .lineEntry new s.counterAfter }
        ∧ SameElsewhere s t p ∧ SameResults s t ∧ t.boot = s.boot ∧ t.zones = s.zones ∧ t.firstCount = s.firstCount
        ∧ t.recs.ampConds = s.recs.ampConds ∧ t.recs.devConds = s.recs.devConds
        ∧ (∀ l : LineId, l ≠ c.line → t.recs.lineConds[l] = s.recs.lineConds[l]
            ∧ t.recs.maskedRun[l] = s.recs.maskedRun[l] ∧ t.learn[l] = s.learn[l])
        ∧ LineReactions s t c old new told
        ∧ LineBlocks s t c old new told order)

/-- A SET-LINE that sets a line OFF and writes neither amp nor zone (R5, R67, R89, R125, R148): its condition records are
cleared, since takes the round where the state changed, the masked run count is 0, its entries leave the notice and
confirm queues, its learning record goes, no notice is queued, and neither LCONV nor EBRG works on the line. What EBRG does
next and which subject SEQ grants is in SetLineWritesTheEntry. -/
def Obligations.LineSetOffHoldsNothing : Prop :=
  ∀ (s : State) (p : Port) (dest : Byte) (pl : List Byte) (order : RaceOrder) (c : LineChange),
    s.takes p dest → pl.length ≤ 200 → parseSetLine pl = some c → c.state = some .off → c.amp = none →
    c.zone = none → (s.line c.line).state ≠ .off → (s.learn[c.line] = none ∨ c.zref = none) →
      ∃ t, exec (.setLine p dest pl order) s = .next t
        ∧ (∀ k, (t.cond (.line c.line k)).isCleared
            ∧ (t.cond (.line c.line k)).since
              = if (s.cond (.line c.line k)).state = .clear then (s.cond (.line c.line k)).since else s.seq.round)
        ∧ t.recs.maskedRun[c.line] = 0
        ∧ t.nq = { s.nq with entries := s.nq.entries.filter fun e => decide (e.subject ≠ .line c.line) }
        ∧ RingEntry.line c.line ∉ t.seq.confirm
        ∧ t.learn[c.line] = none
        ∧ t.lineInFlight ≠ some c.line ∧ t.ebrg.mode.chosen ≠ some c.line
        ∧ t.counted (.line c.line) = false

/-- A HELD line out of emergency that a SET-LINE of the state alone sets WATCHING (R5, R123): each of its ACTIVE
conditions is announced in the order of Table 7.1, at its table level, and the line counts from then on, of which FOUT is
told (R150, R151); its records, the round, the ring and the measurement in flight stay. -/
def Obligations.HeldLineReleasedIsAnnounced : Prop :=
  ∀ (s : State) (p : Port) (dest : Byte) (pl : List Byte) (order : RaceOrder) (c : LineChange),
    s.takes p dest → pl.length ≤ 200 → parseSetLine pl = some c →
    c.state = some .watching → c.amp = none → c.zone = none → c.profile = none → c.zref = none →
    (s.line c.line).state = .held → s.lineInEmergency c.line = false →
      ∃ t, exec (.setLine p dest pl order) s = .next t
        ∧ t.nq = (s.activeConds (.line c.line)).foldl
            (fun q id => q.place (s.announcement id s.cfg.levels[id.kind.index])) s.nq
        ∧ t.recs = s.recs ∧ t.seq = s.seq ∧ t.lconv = s.lconv ∧ t.ebrg = s.ebrg ∧ t.learn = s.learn
        ∧ t.counted (.line c.line) = true ∧ healthTold s t

/-- SET-AMP (R9, R97, R125, R148): the entry is written and echoed; an amplifier set OFF keeps no condition state, no
notice, no confirm entry and no measurement, without notice; one that leaves OFF has its first-count mark set; a
release from HELD out of emergency is announced; FOUT is told once (R150, R151); no result record and no other subject's
conditions change. Where the amplifier's own measurement is abandoned (R33), LCONV reports free: EBRG's renewed start and
SEQ's grant decision follow, in the order given (R69, R82). -/
def Obligations.SetAmpWritesTheEntry : Prop :=
  ∀ (s : State) (p : Port) (dest : Byte) (pl : List Byte) (order : RaceOrder) (c : AmpChange),
    s.takes p dest → pl.length ≤ 200 → parseSetAmp pl = some c →
    let old := s.cfg.amps[c.amp]
    let new : AmpEntry := { state := c.state.getD old.state, polarity := c.polarity.getD old.polarity }
    let x := Subject.amp c.amp
    ∃ t, exec (.setAmp p dest pl order) s = .next t
      ∧ t.cfg = { s.cfg with amps := s.cfg.amps.set c.amp new, ring := t.cfg.ring }
      ∧ (s.measuring (.amp c.amp) = false → t.cfg.ring = s.cfg.ring)
      ∧ t.link.changeCounter = s.counterAfter
      ∧ t.holds p 0x22 { status := .done, view := .live, content := .ampEntry new s.counterAfter }
      ∧ SameElsewhere s t p ∧ SameResults s t ∧ t.boot = s.boot ∧ t.zones = s.zones ∧ t.learn = s.learn
      ∧ t.recs.lineConds = s.recs.lineConds ∧ t.recs.devConds = s.recs.devConds
      ∧ t.recs.maskedRun = s.recs.maskedRun
      ∧ (∀ a : AmpId, a ≠ c.amp → t.recs.ampConds[a] = s.recs.ampConds[a])
      ∧ (∀ a : AmpId, t.firstCount[a]
          = (s.firstCount[a] || decide (a = c.amp ∧ old.state = .off ∧ new.state ≠ .off)))
      ∧ (if old.state ≠ .off ∧ new.state = .off then
          (∀ k, (t.cond (.amp c.amp k)).isCleared
            ∧ (t.cond (.amp c.amp k)).since
              = if (s.cond (.amp c.amp k)).state = .clear then (s.cond (.amp c.amp k)).since else s.seq.round)
          ∧ t.nq = { s.nq with entries := s.nq.entries.filter fun e => decide (e.subject ≠ x) }
          ∧ RingEntry.amp c.amp ∉ t.seq.confirm ∧ t.measuring (.amp c.amp) = false
          ∧ (let seq : Seq := { s.seq with confirm := s.seq.confirm.filter fun e => decide (e ≠ .amp c.amp) }
             if s.measuring (.amp c.amp) = true then
               ∃ u w, FreeReport u w order ∧ u.seq = seq ∧ u.ebrg = s.ebrg ∧ u.cfg.ring = s.cfg.ring
                 ∧ healthTold s u ∧ t = { w with link := t.link }
             else t.seq = seq ∧ t.lconv = s.lconv ∧ t.ebrg = s.ebrg ∧ healthTold s t)
        else
          t.recs.ampConds = s.recs.ampConds ∧ t.seq = s.seq ∧ t.lconv = s.lconv ∧ t.ebrg = s.ebrg ∧ healthTold s t
          ∧ t.nq = if old.state = .held ∧ new.state = .watching ∧ s.ampInEmergency c.amp = false then
              (s.activeConds x).foldl (fun q id => q.place (s.announcement id s.cfg.levels[id.kind.index])) s.nq
            else s.nq)

/-- SET-AMP-WIDE (R10, R97, R102, R117): the settings sent are written and echoed; a changed vote rule re-evaluates every
condition of every amplifier that is not OFF under the new rule, its window and injection kept; a NOPILOT that enters
ACTIVE by it has the DEAD of the lines it feeds attributed, one that leaves ACTIVE sets the first-count mark; each entry
into ACTIVE or exit from it on a reporting subject hands NQ its notice in turn, an attribution's with cause ATTRIBUTED,
and FOUT is told; nothing is pushed and no other condition moves. -/
def Obligations.SetAmpWideReevaluates : Prop :=
  ∀ (s : State) (p : Port) (dest : Byte) (pl : List Byte) (c : AmpWideChange),
    s.takes p dest → pl.length ≤ 200 → parseSetAmpWide pl = some c →
    let old := s.cfg.wide
    let new : AmpWide :=
      { rule := c.rule.getD old.rule, overload := c.overload.getD old.overload, vmin := c.vmin.getD old.vmin
        freqTol := c.freqTol.getD old.freqTol }
    ∃ t, exec (.setAmpWide p dest pl) s = .next t
      ∧ t.cfg = { s.cfg with wide := new }
      ∧ t.link.changeCounter = s.counterAfter
      ∧ t.holds p 0x23 { status := if c.clamped then .clamped else .done, view := .live
                         content := .ampWide new s.counterAfter }
      ∧ SameElsewhere s t p ∧ SameResults s t ∧ t.boot = s.boot ∧ t.zones = s.zones ∧ t.learn = s.learn
      ∧ t.seq = s.seq ∧ t.lconv = s.lconv ∧ t.ebrg = s.ebrg ∧ t.recs.maskedRun = s.recs.maskedRun
      ∧ (old.rule = new.rule → t.recs = s.recs ∧ t.nq = s.nq ∧ t.fout = s.fout ∧ t.firstCount = s.firstCount)
      ∧ (old.rule ≠ new.rule →
          (∀ a k, t.cond (.amp a k)
            = if (s.amp a).state = .off then s.cond (.amp a k)
              else (s.cond (.amp a k)).reevaluated new.rule s.seq.round)
          ∧ (∀ a : AmpId, t.firstCount[a] = (s.firstCount[a] || (s.noPilot a && !t.noPilot a)))
          ∧ (∀ l k, t.cond (.line l k)
            = if k = .dead ∧ s.noPilot (s.line l).amp = false ∧ t.noPilot (s.line l).amp = true
                ∧ (s.line l).state ≠ .off ∧ (s.cond (.line l k)).state ≠ .clear
              then (s.cond (.line l k)).emptied s.seq.round else s.cond (.line l k))
          ∧ t.recs.devConds = s.recs.devConds
          ∧ t.nq = s.nq.placeAll (allAmps.flatMap fun a => ampKinds.flatMap fun k =>
              s.moveNotice (.amp a k) (s.cond (.amp a k)) (t.cond (.amp a k)).state none none
                ++ if k = .nopilot ∧ s.noPilot a = false ∧ t.noPilot a = true then s.attributedNotices a else [])
          ∧ OutputsTold s t (allAmps.flatMap s.ampTurn))

/-- SET-PROFILE (R12, R104, R117): the fields sent are written and echoed; on every line assigned that is not OFF, the
conditions whose rule changed are re-evaluated under the new rule, windows and injections kept, but a DEAD that would
leave CLEAR while the feeding amplifier's NOPILOT is ACTIVE is emptied instead; each entry into ACTIVE or exit from it
on a reporting subject hands NQ its notice, lines ascending and each in the order of Table 7.1, and FOUT is told; nothing
is pushed and no other condition moves. -/
def Obligations.SetProfileReevaluates : Prop :=
  ∀ (s : State) (p : Port) (dest : Byte) (pl : List Byte) (c : ProfileChange),
    s.takes p dest → pl.length ≤ 200 → parseSetProfile pl = some c →
    let old := s.cfg.profiles[c.profile]
    let new : Profile :=
      { impRule := c.impRule.getD old.impRule, earthRule := c.earthRule.getD old.earthRule
        high := c.high.getD old.high, low := c.low.getD old.low, shortLimit := c.shortLimit.getD old.shortLimit
        openLimit := c.openLimit.getD old.openLimit, ishort := c.ishort.getD old.ishort
        vmin := c.vmin.getD old.vmin, imin := c.imin.getD old.imin, maskLevel := c.maskLevel.getD old.maskLevel
        maskLimit := c.maskLimit.getD old.maskLimit, earthThreshold := c.earthThreshold.getD old.earthThreshold }
    ∃ t, exec (.setProfile p dest pl) s = .next t
      ∧ t.cfg = { s.cfg with profiles := s.cfg.profiles.set c.profile new }
      ∧ t.link.changeCounter = s.counterAfter
      ∧ t.holds p 0x24 { status := if c.clamped then .clamped else .done, view := .live
                         content := .profileSet new s.counterAfter }
      ∧ SameElsewhere s t p ∧ SameResults s t ∧ t.boot = s.boot ∧ t.zones = s.zones ∧ t.learn = s.learn
      ∧ t.seq = s.seq ∧ t.lconv = s.lconv ∧ t.ebrg = s.ebrg ∧ t.recs.maskedRun = s.recs.maskedRun
      ∧ t.recs.ampConds = s.recs.ampConds ∧ t.recs.devConds = s.recs.devConds ∧ t.firstCount = s.firstCount
      ∧ t.nq = s.nq.placeAll (allLines.flatMap fun l => lineKinds.flatMap fun k =>
          s.moveNotice (.line l k) (s.cond (.line l k)) (t.cond (.line l k)).state none none)
      ∧ OutputsTold s t (allLines.flatMap fun l => lineKinds.map fun k => .line l k)
      ∧ ∀ l k, let x := s.cond (.line l k)
          let rule := if k = .earth then new.earthRule else new.impRule
          let changed := if k = .earth then old.earthRule ≠ new.earthRule
            else k ≠ .degraded ∧ old.impRule ≠ new.impRule
          t.cond (.line l k)
            = if (s.line l).profile = c.profile ∧ (s.line l).state ≠ .off ∧ changed then
                if k = .dead ∧ s.noPilot (s.line l).amp = true ∧ x.state = .clear ∧ x.judged rule ≠ .clear then
                  { x with window := [] }
                else x.reevaluated rule s.seq.round
              else x

/-- SET-LEVELS (R13) writes the level of each kind named, keeps the others, and leaves the entries already queued as they
are; SET-GROUPS (R160) replaces the set of groups with up to four distinct addresses from 0x40 to 0x4F, the empty
list included, and refuses any other list. Each changes nothing else but the counter and its port. That the set is kept
and reported in the order sent is the model's choice (log 17). -/
def Obligations.SetLevelsAndSetGroupsWrite : Prop :=
  ∀ (s : State) (p : Port) (dest : Byte), s.takes p dest →
    (∀ (pl : List Byte) (c : LevelsChange), pl.length ≤ 200 → parseSetLevels pl = some c →
      ∃ levels : Vector Level 15,
        (∀ k : Kind, levels[k.index]
          = ((c.pairs.find? fun x => decide (x.1 = k)).map Prod.snd).getD s.cfg.levels[k.index])
        ∧ exec (.setLevels p dest pl) s
          = .next (({ s with cfg := { s.cfg with levels := levels } }.advanced).answered p 0x25
              { status := if c.clamped then .clamped else .done, view := .live
                content := .levels levels s.counterAfter } none))
    ∧ ∀ gs : List Byte, gs.length ≤ 198 →
      exec (.setGroups p dest (1 :: BitVec.ofNat 8 gs.length :: gs)) s
        = .next (if gs.length ≤ 4 ∧ (∀ g ∈ gs, 0x40 ≤ g.toNat ∧ g.toNat ≤ 0x4F) ∧ gs.Nodup then
            ({ s with cfg := { s.cfg with groups := gs } }.advanced).answered p 0x2A
              { status := .done, view := .live, content := .groups gs s.counterAfter } none
          else s.answered p 0x2A { status := .refusedArg, view := .live, content := .empty } none)

/-- SET-SCAN (R72, R73, R74): the settings sent are written; a ring makes the form CUSTOM, the default-ring mark builds
the default ring over the feeding in force, and either clears the rebuild mark and, in GRANTED, puts the pointer at
the first entry and clears the skip marks; the measurement in flight, the confirm queue and credit, the round and the
period in use stay, and nothing else changes but the counter and the port. That in PERIOD-WAIT the pointer and the skip
marks stay, and that the running counts of the round survive a new ring, is deduced (log 15). -/
def Obligations.SetScanPutsTheRing : Prop :=
  ∀ (s : State) (p : Port) (dest : Byte) (pl : List Byte) (c : ScanChange),
    s.takes p dest → pl.length ≤ 200 → parseSetScan pl = some c →
    let scan : ScanSettings :=
      { settle := c.settle.getD s.cfg.scan.settle, accum := c.accum.getD s.cfg.scan.accum
        period := c.period.getD s.cfg.scan.period, freezeTime := c.freezeTime.getD s.cfg.scan.freezeTime }
    let put : RingForm × List RingEntry :=
      match c.ring with
      | some ring => (.custom, ring)
      | none => if c.defaultRing then (.byDefault, defaultRing s.cfg.lines) else (s.cfg.form, s.cfg.ring)
    let seq : Seq :=
      if c.ring.isSome = true ∨ c.defaultRing = true then
        { s.seq with
          rebuildPending := false
          pointer := if s.seq.state = .granted then 0 else s.seq.pointer
          skips := if s.seq.state = .granted then [] else s.seq.skips }
      else s.seq
    exec (.setScan p dest pl) s
      = .next (({ s with
            cfg := { s.cfg with scan := scan, form := put.1, ring := put.2 }
            seq := seq }.advanced).answered p 0x26
          { status := if c.clamped then .clamped else .done, view := .live
            content := .scanSet scan put.1 put.2.length s.counterAfter } none)

/-- SET-PILOT (R19, R20, R97): D is clamped to 1100 to 1400; the D in force changes nothing more than the counter; another
D takes effect at once, re-arms every amplifier and abandons the measurement in flight, whose record, votes and
learning stay as they were; LCONV reports free, EBRG's renewed start and SEQ's grant decision follow in the order given
(R69, R82), and a measurement then in flight is a fresh grant. -/
def Obligations.SetPilotAbandonsTheMeasurement : Prop :=
  ∀ (s : State) (p : Port) (dest hi lo : Byte) (order : RaceOrder), s.takes p dest →
    let x := hi.toNat * 256 + lo.toNat
    let d := max 1100 (min 1400 x)
    let reply : Reply :=
      { status := if d = x then .done else .clamped, view := .live, content := .pilot d s.counterAfter }
    let set : State := { s with cfg := { s.cfg with pilotD := d }, firstCount := Vector.ofFn fun _ => true }
    (d = s.cfg.pilotD →
      exec (.setPilot p dest [1, 2, hi, lo] order) s = .next (s.advanced.answered p 0x27 reply none))
    ∧ (d ≠ s.cfg.pilotD → s.lconv = none →
      exec (.setPilot p dest [1, 2, hi, lo] order) s = .next (set.advanced.answered p 0x27 reply none))
    ∧ (d ≠ s.cfg.pilotD → s.lconv.isSome = true →
      ∃ t, exec (.setPilot p dest [1, 2, hi, lo] order) s = .next t
        ∧ FreeReport { set with lconv := none, link := t.link } t order ∧ t.holds p 0x27 reply
        ∧ t.link.changeCounter = s.counterAfter ∧ SameElsewhere s t p)
    ∧ (d ≠ s.cfg.pilotD → s.lconv.isSome = true → s.seq.state = .granted →
      ∃ t, exec (.setPilot p dest [1, 2, hi, lo] order) s = .next t
        ∧ t.cfg = { set.cfg with ring := t.cfg.ring } ∧ t.firstCount = set.firstCount
        ∧ t.link.changeCounter = s.counterAfter ∧ t.holds p 0x27 reply ∧ SameElsewhere s t p
        ∧ t.recs = s.recs ∧ t.learn = s.learn ∧ t.nq = s.nq ∧ t.boot = s.boot ∧ t.zones = s.zones
        ∧ (t.lconv.isSome = true ↔ t.seq.state = .granted)
        ∧ ∀ m, t.lconv = some m → m.settled = 0 ∧ m.sampled = 0 ∧ m.sumV = 0 ∧ m.sumI = 0 ∧ m.v = 0
            ∧ m.clipped = false ∧ m.blockStart = s.clock ∧ m.settle = s.cfg.scan.settle
            ∧ m.sample = 4 * (s.cfg.scan.accum + 1))

/-- SET-EARTH (R87, R88, R80, R81): the settings sent are written; turning supervision OFF ends the test or the wait
without record or vote and sets the walk position back to its line; turning it ON chooses the first line that is not
OFF from the walk position on, and starts its test with the settings in force, or waits while LCONV measures it; a
test in flight is otherwise untouched. Nothing else changes but the counter and the port. -/
def Obligations.SetEarthTurnsTheWalk : Prop :=
  ∀ (s : State) (p : Port) (dest : Byte) (pl : List Byte) (c : EarthChange),
    s.takes p dest → pl.length ≤ 200 → parseSetEarth pl = some c →
    let old := s.cfg.earth
    let new : EarthSettings :=
      { supervision := c.supervision.getD old.supervision, soak := c.soak.getD old.soak, ne := c.ne.getD old.ne }
    ∃ ebrg : Ebrg,
      exec (.setEarth p dest pl) s
        = .next (({ s with cfg := { s.cfg with earth := new }, ebrg := ebrg }.advanced).answered p 0x28
            { status := if c.clamped then .clamped else .done, view := .live
              content := .earth new ebrg.mode.name ebrg.mode.chosen s.counterAfter } none)
      ∧ (old.supervision = new.supervision → ebrg = s.ebrg)
      ∧ (old.supervision = true → new.supervision = false →
          ebrg.mode = .idle ∧ ebrg.walk = s.ebrg.mode.chosen.getD s.ebrg.walk ∧ ebrg.lastBias = s.ebrg.lastBias)
      ∧ (old.supervision = false → new.supervision = true →
          ((∀ l, (s.line l).state = .off) → ebrg = { s.ebrg with mode := .idle })
          ∧ ∀ d : LineId, (∀ j : LineId, j < d → (s.line (s.ebrg.walk + j)).state = .off) →
            (s.line (s.ebrg.walk + d)).state ≠ .off →
              ebrg.walk = s.ebrg.walk + d + 1 ∧ ebrg.lastBias = s.ebrg.lastBias
              ∧ ebrg.mode
                = if s.lineInFlight = some (s.ebrg.walk + d) then .waiting (s.ebrg.walk + d)
                  else .soaking
                    { line := s.ebrg.walk + d, soak := new.soak, ne := new.ne, biasOn := s.clock, blocks := 0
                      sumL := 0, saturated := false, blockStart := s.clock })

/-- SET-OUTPUT (R150 to R153): the settings sent are written, both outputs are told their health, and the output named
reacts: OFF and high-impedance where its mode becomes OFF, STARTING with a count of 0 where it leaves OFF, RUNNING at
once where the short interval is set with 3 rounds or more counted, and otherwise its state stays. A HEALTHY PULSED
output that enters RUNNING, becomes HEALTHY in it or turns PULSED in it begins a new pulse period at that instant; one
whose health and mode stay keeps its phase. Nothing else changes but the counter and the port. -/
def Obligations.SetOutputActsOnTheOutput : Prop :=
  ∀ (s : State) (p : Port) (dest : Byte) (pl : List Byte) (c : OutputChange),
    s.takes p dest → pl.length ≤ 200 → parseSetOutput pl = some c →
    let old := s.cfg.out c.out
    let new : OutSettings :=
      { mode := c.mode.getD old.mode, mask := c.mask.getD old.mask, invert := c.invert.getD old.invert
        latched := c.latched.getD old.latched, short := c.short.getD old.short }
    let was := s.fout.get c.out
    ∃ (fout : Fout), let now := fout.get c.out
      exec (.setOutput p dest pl) s
        = .next (({ s with cfg := s.cfg.setOut c.out new, fout := fout }.advanced).answered p 0x29
            { status := .done, view := .live, content := .output new now s.counterAfter } none)
      ∧ now.unhealthy = s.unhealthy new
      ∧ (∀ o, o ≠ c.out → (fout.get o).state = (s.fout.get o).state
          ∧ (fout.get o).unhealthy = s.unhealthy (s.cfg.out o)
          ∧ (fout.get o).pulse = (if (s.fout.get o).unhealthy = s.unhealthy (s.cfg.out o) then (s.fout.get o).pulse
              else if (s.fout.get o).state = .running then newPeriod (s.cfg.out o) (s.unhealthy (s.cfg.out o)) s.clock
              else none))
      ∧ (new.mode = .off → now.state = .off ∧ now.pulse = none ∧ now.drive new = .highImpedance)
      ∧ (new.mode ≠ .off → old.mode = .off → now.state = .starting 0 ∧ now.pulse = none)
      ∧ (new.mode ≠ .off → old.mode ≠ .off →
          now.state = (match was.state with
            | .starting n => if old.short = false ∧ new.short = true ∧ 3 ≤ n then .running else .starting n
            | .off => .off
            | .running => .running)
          ∧ (was.state ≠ .running → now.state = .running → now.pulse = newPeriod new now.unhealthy s.clock)
          ∧ (was.state = .running → old.mode ≠ new.mode ∨ was.unhealthy ≠ now.unhealthy →
              now.pulse = newPeriod new now.unhealthy s.clock)
          ∧ (was.state = .running → old.mode = new.mode → was.unhealthy = now.unhealthy → now = was))

/-! ## Actions -/

/-- LEARN and ABORT-LEARN (R131, R132, R139): LEARN is refused for an OFF line (REFUSED-STATE) and a learning one
(REFUSED-BUSY), and otherwise begins an empty record with its target clamped to 4 to 32, 16 when absent, and empties
HIGHZ and LOWZ, handing NQ a CLEAR notice for each that was ACTIVE on a reporting subject (HIGHZ's first, the model's
choice: log 19) and telling FOUT of each (R111, R150, R151); ABORT-LEARN is refused
without a record (REFUSED-STATE), and otherwise removes it and hands NQ LEARN-FAILED, cause ABORTED. zref and the
counter stay. -/
def Obligations.LearnBeginsAndAborts : Prop :=
  (∀ l m : Byte, parseLearn [1, 1, l, 2, 1, m]
    = if h : l.toNat < 24 then
        some (⟨l.toNat, h⟩, max 4 (min 32 m.toNat), decide (max 4 (min 32 m.toNat) ≠ m.toNat)) else none)
  ∧ (∀ l : Byte, parseLearn [1, 1, l] = if h : l.toNat < 24 then some (⟨l.toNat, h⟩, 16, false) else none)
  ∧ ∀ (s : State) (p : Port) (dest : Byte) (pl : List Byte), s.takes p dest → pl.length ≤ 200 →
    (∀ l m clamped, parseLearn pl = some (l, m, clamped) →
      ((s.line l).state = .off → exec (.learn p dest pl) s
        = .next (s.answered p 0x41 { status := .refusedState, view := .live, content := .empty } none))
      ∧ ((s.line l).state ≠ .off → s.learn[l].isSome = true → exec (.learn p dest pl) s
        = .next (s.answered p 0x41 { status := .refusedBusy, view := .live, content := .empty } none))
      ∧ ((s.line l).state ≠ .off → s.learn[l] = none →
        ∃ t, exec (.learn p dest pl) s = .next t
          ∧ t.learn = s.learn.set l (some
              { target := m, collected := 0, sumZ := 0, minZ := none, maxZ := none, attempts := 0 })
          ∧ (∀ id, t.cond id = if id = .line l .highz ∨ id = .line l .lowz then (s.cond id).emptied s.seq.round
              else s.cond id)
          ∧ t.nq = (if s.counted (.line l) then
              ([CondId.line l .highz, .line l .lowz].filter fun id => decide ((s.cond id).state = .active)).foldl
                (fun q id => q.place { s.announcement id (s.noticeLevel (.line l) (.cond id.kind)) with event := .clear })
                s.nq
            else s.nq)
          ∧ OutputsTold s t [.line l .highz, .line l .lowz]
          ∧ t.holds p 0x41 { status := if clamped then .clamped else .done, view := .live
                             content := .learn l m (s.line l).zref }
          ∧ SameElsewhere s t p ∧ SameResults s t ∧ t.recs.maskedRun = s.recs.maskedRun ∧ t.cfg = s.cfg
          ∧ t.boot = s.boot ∧ t.zones = s.zones ∧ t.seq = s.seq ∧ t.lconv = s.lconv ∧ t.ebrg = s.ebrg
          ∧ t.firstCount = s.firstCount ∧ t.link.changeCounter = s.link.changeCounter))
    ∧ ∀ l, parseAbortLearn pl = some l →
      (s.learn[l] = none → exec (.abortLearn p dest pl) s
        = .next (s.answered p 0x42 { status := .refusedState, view := .live, content := .empty } none))
      ∧ (s.learn[l].isSome = true → exec (.abortLearn p dest pl) s
        = .next ({ s with
            learn := s.learn.set l none
            nq := s.nq.place
              { subject := .line l, kind := .learn, event := .learnFailed, cause := some .aborted
                level := if s.lineInEmergency l then 7 else 1, round := s.seq.round, value := none
                transient := false, test := false } }.answered p 0x42
            { status := .done, view := .live, content := .abortLearn l (s.line l).zref } none))

/-- TEST-INJECT (R126): refused for a subject that is OFF (REFUSED-STATE); otherwise any injection on the subject goes,
and the condition named takes the count, at most 16 with the reply CLAMPED, or none for a count of 0. No vote, state,
window or latch moves, and nothing else changes but the port. -/
def Obligations.TestInjectArmsOneCondition : Prop :=
  ∀ (s : State) (p : Port) (dest : Byte) (pl : List Byte) (c : Injection),
    s.takes p dest → pl.length ≤ 200 → parseTestInject pl = some c →
    c.cond.subject = c.subject ∧ c.cond.voted = true
    ∧ (s.isOff c.subject = true → exec (.testInject p dest pl) s
        = .next (s.answered p 0x43 { status := .refusedState, view := .live, content := .empty } none))
    ∧ (s.isOff c.subject = false →
      let carried : Option Nat := if c.count = 0 then none else some (min 16 c.count)
      ∃ recs : Records,
        exec (.testInject p dest pl) s
          = .next ({ s with recs := recs }.answered p 0x43
              { status := if 16 < c.count then .clamped else .done, view := .live
                content := .injection c.subject (carried.map fun n => (c.cond, n)) } none)
        ∧ SameResults s { s with recs := recs } ∧ recs.maskedRun = s.recs.maskedRun
        ∧ ∀ id, recs.cond id
            = if id.subject = c.subject then
                { s.cond id with injection := if id = c.cond then carried else none }
              else s.cond id)

/-- CLEAR-LATCH (R121, R122): unit-addressed, or sent to a group or broadcast, it clears the latch of every condition of
the subjects named (all of them without an item) that is not ACTIVE, tells the outputs, and changes no window, state,
since or injection; the unit-addressed one is answered with the latches that remain. That the reply lists the subjects as
lines, then amplifiers, then DEV, each with its latches in the order of Table 7.1, is the model's choice (log 21). -/
def Obligations.ClearLatchClearsQuietLatches : Prop :=
  ∀ (s : State) (p : Port) (dest : Byte) (pl : List Byte) (xs : List Subject),
    pl.length ≤ 200 → parseClearLatch pl = some xs →
    ∃ t : State,
      (s.takes p dest → exec (.clearLatch p dest pl) s
        = .next (t.answered p 0x44
            { status := .done, view := .live
              content := .latches (xs.map fun x =>
                (x, ((condsOf x).filter fun id => (t.cond id).latch).map CondId.kind)) } none))
      ∧ (s.takesMulti p dest → exec (.clearLatch p dest pl) s
        = .next (t.setPort p { s.port p with inFrame := false }))
      ∧ t = { s with recs := t.recs, fout := t.fout } ∧ SameResults s t ∧ t.recs.maskedRun = s.recs.maskedRun
      ∧ (∀ id, t.cond id
          = if id.subject ∈ xs ∧ (s.cond id).state ≠ .active then { s.cond id with latch := false } else s.cond id)
      ∧ healthTold s t

/-- CLEAR-MINMAX (R56): a line number out of range or a wrong structure is REFUSED-ARG and changes no figure; in RUNNING
the figures of the line named, OFF or not, or of every line, take the clear values, the reply is DONE, and the frozen
copy and the change counter stay; in STARTING it is answered STARTING; sent to a group or broadcast it is ignored. An
impedance that then enters the cleared figures becomes both. -/
def Obligations.ClearMinmaxClearsFigures : Prop :=
  parseClearMinmax [] = some (List.finRange 24)
  ∧ (∀ b : Byte, parseClearMinmax [1, 1, b] = if h : b.toNat < 24 then some [⟨b.toNat, h⟩] else none)
  ∧ (∀ z, z ≤ 65534 → ({ minZ := 65535, maxZ := 0 } : MinMax).enter z = { minZ := z, maxZ := z })
  ∧ ∀ (s : State) (p : Port) (dest : Byte) (pl : List Byte), pl.length ≤ 200 →
    (s.takes p dest →
      (parseClearMinmax pl = none → exec (.clearMinmax p dest pl) s
        = .next (s.answered p 0x45 { status := .refusedArg, view := .live, content := .empty } none))
      ∧ ∀ ls, parseClearMinmax pl = some ls →
        ∃ figures : Vector MinMax 24,
          exec (.clearMinmax p dest pl) s
            = .next ({ s with recs := { s.recs with minMax := figures } }.answered p 0x45
                { status := .done, view := .live, content := .empty } none)
          ∧ ∀ l : LineId, figures[l] = if l ∈ ls then { minZ := 65535, maxZ := 0 } else s.recs.minMax[l])
    ∧ (s.poweredUp = true → s.boot.phase = .starting → (s.port p).held = none → dest.toNat = s.straps.unit →
        exec (.clearMinmax p dest pl) s
          = .next (s.answered p 0x45 { status := .starting, view := .live, content := .empty } none))
    ∧ (s.takesMulti p dest → exec (.clearMinmax p dest pl) s
        = .next (s.setPort p { s.port p with inFrame := false }))

/-- EMERGENCY and the EVAC filter (R14, R15, R16, R124, R150): EMERGENCY replaces the zone set, however it is addressed,
and is answered with the set and the filtered EVAC state when unit-addressed; a change of the pin restarts the 20 ms
interval, and its end gives the filtered state the pin's level. Every HELD subject that enters emergency has its
ACTIVE conditions announced at level 7, and the outputs are told. Nothing else changes. (The clock, and a pin that is
followed while the part has no supply, are the model's: logs 2 and 5.) -/
def Obligations.EmergencyIsDeclared : Prop :=
  (∀ (s : State) (p : Port) (dest : Byte) (pl : List Byte) (zones : BitVec 16),
    pl.length ≤ 200 → parseEmergency pl = some zones →
    ∃ t : State,
      (s.takes p dest → exec (.emergency p dest pl) s
        = .next (t.answered p 0x46
            { status := .done, view := .live, content := .emergency zones s.evac.filtered } none))
      ∧ (s.takesMulti p dest → exec (.emergency p dest pl) s
        = .next (t.setPort p { s.port p with inFrame := false }))
      ∧ t = { s with zones := zones, nq := announced s t, fout := t.fout }
      ∧ (∀ z, t.zoneInEmergency z = (s.evac.filtered || zones.getLsbD z)) ∧ healthTold s t)
  ∧ (∀ hi lo : Byte, parseEmergency [1, 2, hi, lo] = some (hi ++ lo))
  ∧ ∀ (s : State) (low : Bool),
    (s.evac.pinLow = low → exec (.evacPinChange low) s = .next s)
    ∧ (s.evac.pinLow ≠ low → exec (.evacPinChange low) s
        = .next { s with evac := { s.evac with pinLow := low, since := if s.poweredUp then some s.clock else none } })
    ∧ ∀ since, s.evac.since = some since →
      ∃ t, exec .evacFilterExpiry s = .next t
        ∧ t = { s with
            clock := max s.clock (since + 491520)
            evac := { s.evac with since := none, filtered := s.evac.pinLow }
            nq := announced s t
            fout := t.fout }
        ∧ healthTold s t

/-- FREEZE, UNFREEZE and the freeze timer (R164, R165): FREEZE copies the live records, starts the timer from the full
freeze time and is answered with it; UNFREEZE releases the view and leaves the indicator; expiry releases it and sets
the indicator; a restart releases it without setting the indicator; and no other command changes the view, but for the
loss of the supply, which releases it too: that is deduced (log 5), and is none of R165's three events. (The clock is the
model's: log 2.) -/
def Obligations.FrozenViewIsTakenAndReleased : Prop :=
  (∀ (s : State) (p : Port) (dest : Byte),
    let frozen : State := { s with link := { s.link with
      frozen := some { view := s.recs, deadline := s.clock + s.cfg.scan.freezeTime * 2457600 } } }
    let released : State := { s with link := { s.link with frozen := none } }
    (s.takes p dest →
      exec (.freeze p dest []) s
        = .next (frozen.answered p 0x47
            { status := .done, view := .live, content := .freezeTime s.cfg.scan.freezeTime } none)
      ∧ exec (.unfreeze p dest []) s
        = .next (released.answered p 0x48 { status := .done, view := .live, content := .empty } none))
    ∧ (s.takesMulti p dest →
      exec (.freeze p dest []) s = .next (frozen.setPort p { s.port p with inFrame := false })
      ∧ exec (.unfreeze p dest []) s = .next (released.setPort p { s.port p with inFrame := false })))
  ∧ (∀ (s : State) (f : Frozen), s.link.frozen = some f →
      exec .freezeExpiry s
        = .next { s with
            clock := max s.clock f.deadline
            link := { s.link with frozen := none, freezeExpired := true } })
  ∧ ∀ c s t, exec c s = .next t → t.link.frozen ≠ s.link.frozen →
      (∃ p d pl, c = .freeze p d pl ∨ c = .unfreeze p d pl) ∨ c = .freezeExpiry
      ∨ (((∃ p d pl, c = .restart p d pl) ∨ c = .softRestart ∨ c = .powerOn ∨ c = .pinReset ∨ c = .powerLoss)
          ∧ t.link.frozen = none
          ∧ (t.link.freezeExpired = true → s.link.freezeExpired = true))

/-- SAVE-IMAGE (R171): refused with REFUSED-BUSY while a save is writing or an accepted RESTART awaits its soft restart;
otherwise the settings in force are copied and the save status is WRITING. Nothing else changes. That the RESTART still
awaits its soft restart between the end of its reply and the command SOFT_RESTART is log 7's reading. -/
def Obligations.SaveImageCopiesTheSettings : Prop :=
  ∀ (s : State) (p : Port) (dest : Byte), s.takes p dest →
    let awaited := s.boot.restartDue.isSome = true
      ∨ ∃ q h, (s.port q).held = some h ∧ h.restarts.isSome = true
    ((s.boot.save = .writing ∨ awaited) → exec (.saveImage p dest []) s
      = .next (s.answered p 0x49 { status := .refusedBusy, view := .live, content := .empty } none))
    ∧ (s.boot.save ≠ .writing → ¬awaited → exec (.saveImage p dest []) s
      = .next ({ s with boot := { s.boot with save := .writing, saveCopy := some s.cfg } }.answered p 0x49
          { status := .done, view := .live, content := .saveStatus .writing } none))

/-- The end of an image write (R129, R171): acknowledged throughout and read back as written, the memory holds the image,
the save status is DONE, and an ACTIVE CONFIG clears with its notice, its latch kept, and FOUT is told; otherwise the save status is
FAILED, CONFIG stays, and the memory holds what it held before, the whole image, or contents that fail at the next load.
No byte outside the image changes in either case; a failed write leaves the bytes it covers open (log 9). -/
def Obligations.ImageWriteEnds : Prop :=
  ∀ (s : State) (ack : Bool) (readBack : List Byte) (copy : Settings),
    s.boot.save = .writing → s.boot.saveCopy = some copy → Memory.wf s.memory = true →
    let image := copy.image
    let well := ack = true ∧ readBack = image
    let config := s.cond (.dev .config)
    ∃ t, exec (.imageWriteEnd ack readBack) s = .next t
      ∧ t = { s with
          boot := { s.boot with save := if well then .done else .failed, saveCopy := none }
          memory := t.memory, freeCount := if well then s.freeCount else s.freeCount + 1
          recs := t.recs, nq := t.nq, fout := t.fout }
      ∧ (well → t.memory = writeBytes s.memory 0 image)
      ∧ (¬well → t.memory = s.memory ∨ t.memory = writeBytes s.memory 0 image ∨ loadImage t.memory = none)
      ∧ (∀ a (h : a < image.length), well ∨ a ≠ 4 → readByte t.memory a
          = if well then image[a] else Config.partialByte s.freeCount a)
      ∧ (∀ a, image.length ≤ a → readByte t.memory a = readByte s.memory a)
      ∧ (∀ id, id ≠ .dev .config → t.cond id = s.cond id)
      ∧ t.cond (.dev .config)
        = (if well ∧ config.state = .active then { config with state := .clear, since := s.seq.round } else config)
      ∧ t.nq = (if well ∧ config.state = .active then
          s.nq.place { s.announcement (.dev .config) s.cfg.levels[Kind.config.index] with event := .clear, test := false }
        else s.nq)
      ∧ OutputsTold s t [.dev .config] ∧ SameResults s t ∧ t.recs.maskedRun = s.recs.maskedRun

/-! ## Restarts and start-up (Chapter 11) -/

/-- RESTART and the soft restart (R1, R75, R79, R129, R170, Table 11.1): a unit-addressed RESTART is refused with
REFUSED-BUSY while a save is writing, and otherwise answered DONE, keeping the settings in force and whether CONFIG is
ACTIVE for the soft restart that follows its reply; one sent to a group or broadcast is ignored while a save is writing,
and otherwise the soft restart begins as the frame is taken. The soft restart releases the view, drops both held frames and
every learning record, starts up with cause COMMAND on the tables, ring, scan and earth settings of the acceptance, with
CONFIG ACTIVE where it was, and keeps the zone set, the EVAC filter, the straps, the image and save status, the memory and
the pilot. By log 7: the command SOFT_RESTART performs it once the reply has been sent (the field restartDue) and does
nothing without one; D, the outputs, the groups and the zone set are those that stand when it begins; each receiver stays as it is; a
multicast RESTART with a payload is ignored. -/
def Obligations.RestartBeginsASoftRestart : Prop :=
  (∀ (s : State) (p : Port) (dest : Byte),
    let copy : RestartCopy := { settings := s.cfg, config := decide ((s.cond (.dev .config)).state = .active) }
    let heard := s.setPort p { s.port p with inFrame := false }
    (s.takes p dest → exec (.restart p dest []) s
      = .next (if s.boot.save = .writing then
          s.answered p 0x4A { status := .refusedBusy, view := .live, content := .empty } none
        else s.answered p 0x4A { status := .done, view := .live, content := .empty } (some copy)))
    ∧ (s.takesMulti p dest → ∀ pl : List Byte, pl.length ≤ 200 →
      (s.boot.save = .writing ∨ pl ≠ [] → exec (.restart p dest pl) s = .next heard)
      ∧ (s.boot.save ≠ .writing → pl = [] →
          ∃ t, exec (.restart p dest pl) s = .next t ∧ SoftRestarted heard t copy)))
  ∧ ∀ s : State,
    (∀ k, s.boot.restartDue = some k → ∃ t, exec .softRestart s = .next t ∧ SoftRestarted s t k)
    ∧ (s.boot.restartDue = none → exec .softRestart s = .next s)

/-- The hard resets and the loss of the supply (R14, R15, R17, R34, R75, R90, R140, R149, R155, R167, R171): the condition
R167 gives from the start of a reset, with the choices of log 5; that each output's state is OFF while its pin is
high-impedance is the model's choice (log 16); the cause is POWER when the supply rises and PIN for the pin, but for a reset not
yet released, which keeps its cause; the settings and the records stay until start-up replaces them; a write in
progress is abandoned with no byte outside the image changed, and leaves the memory as it was, the whole image, or
contents that fail at the next load (log 9). -/
def Obligations.HardResetStopsThePart : Prop :=
  ∀ (s : State) (c : Instr) (power : Power),
    ((c = .powerOn ∧ power = .inReset .power)
      ∨ (c = .pinReset ∧ ((∃ k, s.power = .released k) ∧ power = .inReset .pin
          ∨ (∃ k, s.power = .inReset k) ∧ power = s.power))
      ∨ (c = .powerLoss ∧ power = .unpowered)) →
    ∃ t, exec c s = .next t
      ∧ t.power = power
      ∧ t.boot = { phase := .starting, image := .none, save := .idle, saveCopy := none, restartDue := none }
      ∧ (t.fout.a.drive t.cfg.outA = .highImpedance ∧ t.fout.b.drive t.cfg.outB = .highImpedance)
      ∧ (∀ o, t.fout.get o = { s.fout.get o with state := .off, pulse := none })
      ∧ t.pilotOn = false ∧ t.lconv = none ∧ t.seq = { s.seq with state := .stopped }
      ∧ t.ebrg = { s.ebrg with mode := .idle } ∧ (∀ l : LineId, t.learn[l] = none)
      ∧ t.link = { s.link with
          frozen := none
          portA := { s.link.portA with inFrame := false, held := none }
          portB := { s.link.portB with inFrame := false, held := none } }
      ∧ t.zones = 0 ∧ t.evac = { pinLow := s.evac.pinLow, since := none, filtered := false }
      ∧ t.cfg = s.cfg ∧ t.recs = s.recs ∧ t.nq = s.nq ∧ t.firstCount = s.firstCount ∧ t.straps = s.straps
      ∧ t.clock = s.clock ∧ t.pending = s.pending
      ∧ (s.boot.save ≠ .writing → t.memory = s.memory ∧ t.freeCount = s.freeCount)
      ∧ (Memory.wf s.memory = true → ∀ copy, s.boot.saveCopy = some copy →
          (∀ a, copy.image.length ≤ a → readByte t.memory a = readByte s.memory a)
          ∧ (t.memory = s.memory ∨ t.memory = writeBytes s.memory 0 copy.image ∨ loadImage t.memory = none))

/-- The release of reset and the end of the Load step (R155, R156, R167, R168, R169): the straps give the unit address (62
for 0 and 63), the baud rate and the source; under DEFAULTS the part starts up on the defaults with image status NONE;
under IMAGE it is LOADING until the image read ends, and then starts up on the image, LOADED, or on the defaults,
FAILED and with CONFIG ACTIVE. The pilot starts, and the RESTART notice carries the cause of the reset. The learning records,
the save status, the receivers, the held frames and the frozen view stay as the start of the reset left them
(HardResetStopsThePart), but for frames that a port has taken during the Load step. -/
def Obligations.StartUpTakesItsSettings : Prop :=
  (∀ (s : State) (cause : RestartCause) (addr : BitVec 6) (baud source : Bool), s.power = .inReset cause →
    let straps : Straps :=
      { unit := if addr.toNat = 0 ∨ addr.toNat = 63 then 62 else addr.toNat
        baud := if baud then .b115200 else .b57600
        source := if source then .image else .defaults }
    ∃ t, exec (.resetRelease addr baud source) s = .next t
      ∧ t.power = .released cause ∧ t.straps = straps
      ∧ t.evac = { pinLow := s.evac.pinLow, since := some s.clock, filtered := false }
      ∧ (source = false →
          StartedUp t Settings.default cause.cause false ∧ StopKept s t .running .none ∧ t.pilotOn = true)
      ∧ (source = true → t = { s with
          power := .released cause, straps := straps, evac := t.evac
          boot := { s.boot with image := .loading } }))
  ∧ ∀ (s : State) (cause : RestartCause) (ack : Bool), s.power = .released cause → s.boot.image = .loading →
    ∃ t, exec (.loadStepEnd ack) s = .next t
      ∧ t.pilotOn = true
      ∧ (match (if ack then loadImage s.memory else none) with
        | some c => StartedUp t c cause.cause false ∧ StopKept s t .running .loaded
        | none => StartedUp t Settings.default cause.cause true ∧ StopKept s t .running .failed)
      ∧ t.power = s.power ∧ t.evac = s.evac ∧ t.straps = s.straps

/-! ## Measurement (Chapters 2, 3, 6 and 7) -/

/-- Blocks (R18, R23, R24, R25, R26): a block lasts 64·D ticks from the end of the one before; a settle block's codes are
discarded, and the S-th brings SAMPLING and starts an amplifier's period counter; a sample block is masked when its
programme code is above the mask level in force (P0's for an amplifier, never for REF), and otherwise adds its codes, 1
to v, and the clipped mark for a code of 4095. The counter's count is kept, or it gives up at 32·D ticks. Nothing but
LCONV and the clock moves before the N-th sample block. (The clock is the model's: log 2. That a counter still running at
a sample block's end has given up is deduced: log 14.) -/
def Obligations.BlocksAccumulate : Prop :=
  ∀ (s : State) (m : Meas), s.lconv = some m →
    let due := m.blockStart + 64 * s.cfg.pilotD
    (m.settled < m.settle →
      exec .settleBlockEnd s
        = .next { s with
            clock := max s.clock due
            lconv := some { m with
              settled := m.settled + 1
              blockStart := due
              counter := if m.settled + 1 = m.settle then
                  (match m.subject with | .amp _ => .running due | .line _ => .idle | .ref => .idle)
                else m.counter } })
    ∧ (∀ (v i prog : Code) (th su : Bool) (order : RaceOrder), m.settle ≤ m.settled → m.sampled + 1 < m.sample →
      let masked : Bool := match m.subject with
        | .line l => decide ((s.lineProfile l).maskLevel < prog.val)
        | .amp _ => decide (s.cfg.profiles[(0 : ProfileId)].maskLevel < prog.val)
        | .ref => false
      exec (.sampleBlockEnd v i prog th su order) s
        = .next { s with
            clock := max s.clock due
            lconv := some { m with
              sampled := m.sampled + 1
              blockStart := due
              sumV := if masked then m.sumV else m.sumV + v.val
              sumI := if masked then m.sumI else m.sumI + i.val
              v := if masked then m.v else m.v + 1
              clipped := m.clipped || (!masked && (decide (v.val = 4095) || decide (i.val = 4095)))
              counter := match m.counter with | .running _ => .gaveUp | x => x } })
    ∧ ∀ since, m.counter = .running since →
      (∀ count, count < 32 * s.cfg.pilotD → exec (.periodCountComplete count) s
        = .next { s with clock := max s.clock (since + count), lconv := some { m with counter := .done count } })
      ∧ exec .periodCountGiveUp s
        = .next { s with
            clock := max s.clock (since + 32 * s.cfg.pilotD), lconv := some { m with counter := .gaveUp } }

/-- One vote on a condition (R109 to R113, R127): it enters the window as the newest of at most eight, BAD while an
injection is pending; the state follows Table 7.3 under the rule in force; a BAD vote into a CLEAR condition pushes its
line or amplifier; a reporting subject's entry into ACTIVE or exit from it hands NQ one notice, and FOUT is told of every
entry and exit (R150, R151); no other condition moves. (NOPILOT's further acts are in the amplifier's completion.) -/
def Obligations.VoteIsEntered : Prop :=
  (∀ (k b : Nat), nextCondState k .clear b = (if b = 0 then .clear else if b < k then .pending else .active)
    ∧ nextCondState k .pending b = (if b = 0 then .clear else if b < k then .pending else .active)
    ∧ nextCondState k .active b = (if b = 0 then .clear else .active))
  ∧ ∀ (s : State) (id : CondId) (judged : Vote) (value : Option Nat), (∀ a, id ≠ .amp a .nopilot) →
    ∃ recs : Records,
      s.vote id judged value
        = { s with
            recs := recs, nq := s.nqAfterVote id judged value, seq := s.seqAfterVote id judged
            fout := if decide ((s.cond id).state = .active) = decide ((s.voted id judged).state = .active) then s.fout
              else ({ s with recs := recs } : State).tellOutputs.fout }
      ∧ (∀ j, recs.cond j = if j = id then s.voted id judged else s.cond j)
      ∧ SameResults s { s with recs := recs } ∧ recs.maskedRun = s.recs.maskedRun

/-- The completion of a line measurement (R27, R28, R29, R30, R42 to R47, R54, R114, R118, R119, R120): the record is
replaced by the means, impedance, deviation and class of the unmasked blocks under the settings in force, with the
status of the first test of R28 that is met; a VALID one enters minZ and maxZ and votes on OPEN, HIGHZ, DEAD, SHORT and
LOWZ; a BAD vote into a CLEAR condition pushes the line (R112); the masked run count and DEGRADED move; each entry into
ACTIVE or exit from it hands NQ its notice in turn, with the value Z where the record carries it (R113), and FOUT is told;
then a learning line's record is handed to LEARN (R27 step 5, R133; LearningCollectsAndEnds says what it does); LCONV
reports free, and EBRG's renewed start and SEQ's grant decision follow in the order given (R69, R82). No other subject's
conditions or results change. (The clock is the model's: log 2.) -/
def Obligations.LineMeasurementCompletes : Prop :=
  ∀ (s : State) (m : Meas) (l : LineId) (vc ic pc : Code) (th su : Bool) (order : RaceOrder),
    s.lconv = some m → m.subject = .line l → m.settle ≤ m.settled → m.sample ≤ m.sampled + 1 → ReferenceGated s →
    let e := s.line l
    let p := s.lineProfile l
    let b := m.withBlock (decide (p.maskLevel < pc.val)) vc.val ic.val
    let meanV := b.sumV / b.v
    let meanI := b.sumI / b.v
    let z := if meanI < p.imin then 65535 else min 65534 ((b.sumV * 1000 + b.sumI / 2) / b.sumI)
    let dev : Option Int :=
      if z ≤ 65534 then
        e.zref.map fun r => max (-1000) (min 9999 (Int.tdiv (((z : Int) - (r : Int)) * 1000) (r : Int)))
      else none
    let cls : LineClass :=
      if meanV < p.vmin then (if p.ishort ≤ meanI then .short else .dead)
      else if z = 65535 ∨ p.openLimit ≤ z then .opn
      else if z < p.shortLimit then .short
      else match dev with
        | some d => if (p.high : Int) ≤ d then .high else if d ≤ -(p.low : Int) then .low else .normal
        | none => .normal
    let status : MeasStatus :=
      if b.v < m.sample / 2 then .masked
      else if s.refActive then .unreliable
      else if (s.amp e.amp).state ≠ .off ∧ s.noPilot e.amp = true then .suppressed
      else .valid
    let votes := fun k : LineKind =>
      decide (status = .valid) && decide (k ∈ [LineKind.opn, .highz, .dead, .short, .lowz])
        && (!(decide (k = .highz) || decide (k = .lowz)) || (e.zref.isSome && s.learn[l].isNone))
    let bad := fun k : LineKind =>
      decide ((cls, k) ∈ [(LineClass.opn, LineKind.opn), (.high, .highz), (.dead, .dead), (.short, .short), (.low, .lowz)])
    let run := if status = .masked then min 255 (s.recs.maskedRun[l] + 1) else 0
    let figures := s.recs.minMax[l]
    let degraded := s.cond (.line l .degraded)
    let push := [LineKind.opn, .highz, .dead, .short, .lowz].any fun k =>
      votes k && (bad k || (s.cond (.line l k)).injection.isSome) && decide ((s.cond (.line l k)).state = .clear)
    ∃ u t, exec (.sampleBlockEnd vc ic pc th su order) s = .next t
      ∧ t.clock = max s.clock (m.blockStart + 64 * s.cfg.pilotD)
      ∧ t.recs.lineRes = s.recs.lineRes.set l
          { round := s.seq.round
            status := status
            v := b.v
            meanV := if status = .masked then none else some meanV
            meanI := if status = .masked then none else some meanI
            z := if status = .masked ∨ cls = .dead then none else some z
            dev := if status = .masked ∨ cls = .dead then none else dev
            cls := if status = .masked then none else some cls
            clipped := b.clipped
            injected := [LineKind.opn, .highz, .dead, .short, .lowz].any fun k =>
              votes k && (s.cond (.line l k)).injection.isSome
            learning := s.learn[l].isSome }
      ∧ t.recs.ampRes = s.recs.ampRes ∧ t.recs.refRes = s.recs.refRes
      ∧ t.recs.minMax = (if status = .valid ∧ cls ≠ .dead ∧ z ≤ 65534 then
          s.recs.minMax.set l { minZ := min figures.minZ z, maxZ := max figures.maxZ z } else s.recs.minMax)
      ∧ t.recs.maskedRun = s.recs.maskedRun.set l run
      ∧ (∀ k, k ≠ .degraded → t.cond (.line l k)
          = if votes k then (s.cond (.line l k)).afterVote (if bad k then .bad else .clean) p.impRule s.seq.round
            else s.cond (.line l k))
      ∧ t.cond (.line l .degraded)
          = (if degraded.state = .clear ∧ status = .masked ∧ p.maskLimit ≤ run then
              { degraded with state := .active, since := s.seq.round, latch := true }
            else if degraded.state = .active ∧ status ≠ .masked then
              { degraded with state := .clear, since := s.seq.round }
            else degraded)
      ∧ (∀ id, id.subject ≠ .line l → t.cond id = s.cond id)
      ∧ (let judged : State :=
          { s with
            clock := t.clock
            recs := t.recs
            nq := s.nq.placeAll
              ([LineKind.opn, .highz, .dead, .short, .lowz].flatMap (fun k =>
                  s.moveNotice (.line l k) (s.cond (.line l k)) (t.cond (.line l k)).state none
                    (if cls = .dead then none else some z))
                ++ s.moveNotice (.line l .degraded) { degraded with injection := none }
                    (t.cond (.line l .degraded)).state none none)
            seq := s.seq.pushedIf push (.line l)
            fout := u.fout }
         u = { judged.handLearn l t.recs.lineRes[l] with lconv := none })
      ∧ OutputsTold s u ([LineKind.opn, .highz, .dead, .short, .lowz, .degraded].map fun k => .line l k)
      ∧ (s.learn[l] = none → t.cfg.lines = s.cfg.lines ∧ t.learn = s.learn)
      ∧ t.cfg = { s.cfg with lines := t.cfg.lines, ring := t.cfg.ring }
      ∧ (∀ j : LineId, j ≠ l → t.cfg.lines[j] = s.cfg.lines[j] ∧ t.learn[j] = s.learn[j])
      ∧ t.firstCount = s.firstCount ∧ AfterFreeReport s u t order

/-- The completion of an amplifier or REF measurement (R27, R28, R30, R31, R32, R48, R49, R93 to R98, R102, R115): an
amplifier's record is replaced, with its class by R48, its period count and its contacts read under its polarity; a
VALID result votes on NOPILOT, OVERLOAD and, where R96 allows, FREQ, and every result on TEMP and SUPPLY; a BAD vote into a
CLEAR condition pushes the amplifier (R112); a NOPILOT that enters ACTIVE has the DEAD of the lines it feeds attributed;
each entry into ACTIVE or exit from it hands NQ its notice in turn, FREQ's with the count as value, an attributed DEAD's with
cause ATTRIBUTED right after NOPILOT's (R102, R113), and FOUT is told. REF's record is classed by R32 and votes on REF.
LCONV then reports free, and EBRG's renewed start and SEQ's grant decision follow in the order given (R69, R82). (The clock
is the model's: log 2.) -/
def Obligations.AmplifierAndReferenceComplete : Prop :=
  ∀ (s : State) (m : Meas) (vc ic pc : Code) (th su : Bool) (order : RaceOrder),
    s.lconv = some m → m.settle ≤ m.settled → m.sample ≤ m.sampled + 1 →
    (∀ a : AmpId, m.subject = .amp a →
      let w := s.cfg.wide
      let round := s.seq.round
      let b := m.withBlock (decide (s.cfg.profiles[(0 : ProfileId)].maskLevel < pc.val)) vc.val ic.val
      let meanV := b.sumV / b.v
      let meanI := b.sumI / b.v
      let cls : AmpClass := if w.overload ≤ meanI then .overload else if meanV < w.vmin then .nopilot else .normal
      let status : MeasStatus :=
        if b.v < m.sample / 2 then .masked else if s.refActive then .unreliable else .valid
      let count := match m.counter with | .done c => some c | .idle | .running _ | .gaveUp => none
      let contact := fun closed : Bool =>
        if closed = decide ((s.amp a).polarity = .normallyOpen) then Contact.asserted else .released
      let vote := fun (k : AmpKind) (isBad : Bool) =>
        (s.cond (.amp a k)).afterVote (if isBad then .bad else .clean) w.rule round
      let injected := fun k : AmpKind => (s.cond (.amp a k)).injection.isSome
      let first := fun (k : AmpKind) (isBad : Bool) =>
        (isBad || injected k) && decide ((s.cond (.amp a k)).state = .clear)
      ∃ u t, exec (.sampleBlockEnd vc ic pc th su order) s = .next t
        ∧ t.clock = max s.clock (m.blockStart + 64 * s.cfg.pilotD)
        ∧ (let mark := s.firstCount[a] || (s.noPilot a && !t.noPilot a)
           let counts := decide (status = .valid) && decide (cls ≠ .nopilot) && count.isSome && !t.noPilot a
           let freqBad := decide (w.freqTol < ((count.getD 0 : Int) - 16 * (s.cfg.pilotD : Int)).natAbs)
           t.recs.ampRes = s.recs.ampRes.set a
              { round := round
                status := status
                v := b.v
                meanV := if status = .masked then none else some meanV
                meanI := if status = .masked then none else some meanI
                cls := if status = .masked then none else some cls
                clipped := b.clipped
                injected := (decide (status = .valid) && (injected .nopilot || injected .overload))
                  || (counts && !mark && injected .freq) || injected .temp || injected .supply
                count := count
                thermal := contact th
                supply := contact su }
           ∧ t.cond (.amp a .nopilot)
              = (if status = .valid then vote .nopilot (decide (cls = .nopilot)) else s.cond (.amp a .nopilot))
           ∧ t.cond (.amp a .overload)
              = (if status = .valid then vote .overload (decide (cls = .overload)) else s.cond (.amp a .overload))
           ∧ t.cond (.amp a .freq) = (if counts && !mark then vote .freq freqBad else s.cond (.amp a .freq))
           ∧ t.cond (.amp a .temp) = vote .temp (decide (contact th = .asserted))
           ∧ t.cond (.amp a .supply) = vote .supply (decide (contact su = .asserted))
           ∧ (∀ j : AmpId, t.firstCount[j] = if j = a then mark && !counts else s.firstCount[j])
           ∧ u.seq = s.seq.pushedIf
              ((decide (status = .valid)
                  && (first .nopilot (decide (cls = .nopilot)) || first .overload (decide (cls = .overload))))
                || (counts && !mark && first .freq freqBad) || first .temp (decide (contact th = .asserted))
                || first .supply (decide (contact su = .asserted))) (.amp a))
        ∧ (∀ j : AmpId, j ≠ a → t.recs.ampConds[j] = s.recs.ampConds[j])
        ∧ (∀ l k, t.cond (.line l k)
            = if k = .dead ∧ (s.line l).amp = a ∧ s.noPilot a = false ∧ t.noPilot a = true ∧ (s.line l).state ≠ .off
                ∧ (s.cond (.line l k)).state ≠ .clear
              then (s.cond (.line l k)).emptied round else s.cond (.line l k))
        ∧ t.nq = s.nq.placeAll (ampKinds.flatMap fun k =>
            s.moveNotice (.amp a k) (s.cond (.amp a k)) (t.cond (.amp a k)).state none (if k = .freq then count else none)
              ++ if k = .nopilot ∧ s.noPilot a = false ∧ t.noPilot a = true then s.attributedNotices a else [])
        ∧ OutputsTold s u (s.ampTurn a)
        ∧ t.recs.lineRes = s.recs.lineRes ∧ t.recs.refRes = s.recs.refRes ∧ t.recs.minMax = s.recs.minMax
        ∧ t.recs.maskedRun = s.recs.maskedRun ∧ t.recs.devConds = s.recs.devConds
        ∧ t.cfg = { s.cfg with ring := t.cfg.ring } ∧ t.learn = s.learn ∧ AfterFreeReport s u t order)
    ∧ (m.subject = .ref →
      let b := m.withBlock false vc.val ic.val
      let meanV := b.sumV / b.v
      let meanI := b.sumI / b.v
      let out := !(decide (2028 ≤ meanV ∧ meanV ≤ 2068) && decide (2028 ≤ meanI ∧ meanI ≤ 2068))
      let judged := if out then Vote.bad else .clean
      ∃ u t, exec (.sampleBlockEnd vc ic pc th su order) s = .next t
        ∧ t.clock = max s.clock (m.blockStart + 64 * s.cfg.pilotD)
        ∧ t.recs.refRes
            = { round := s.seq.round
                status := .valid
                v := b.v
                meanV := some meanV
                meanI := some meanI
                cls := some (if out then .out else .normal)
                clipped := b.clipped
                injected := (s.cond (.dev .ref)).injection.isSome }
        ∧ (∀ id, t.cond id
            = if id = .dev .ref then (s.cond id).afterVote judged .r2oo3 s.seq.round else s.cond id)
        ∧ t.nq = s.nqAfterVote (.dev .ref) judged none ∧ u.seq = s.seq ∧ OutputsTold s u [.dev .ref]
        ∧ t.recs.lineRes = s.recs.lineRes ∧ t.recs.ampRes = s.recs.ampRes ∧ t.recs.minMax = s.recs.minMax
        ∧ t.recs.maskedRun = s.recs.maskedRun ∧ t.firstCount = s.firstCount
        ∧ t.cfg = { s.cfg with ring := t.cfg.ring } ∧ t.learn = s.learn ∧ AfterFreeReport s u t order)

/-- A result handed to LEARN (R52, R53, R133 to R138): every one is an attempt; a VALID OPEN, SHORT or DEAD ends the
learning with cause FAULT; a VALID NORMAL, HIGH or LOW is collected; at the target count the candidate becomes the zref
where the spread test passes, and otherwise the learning ends with cause SPREAD; three attempts for each impedance
asked end it with cause TIMEOUT. Each end hands NQ one notice. Nothing else changes. -/
def Obligations.LearningCollectsAndEnds : Prop :=
  ∀ (s : State) (l : LineId) (r0 : LearnRec) (res : LineResult), ReferenceGated s → s.learn[l] = some r0 →
    let notice : Notice :=
      { subject := .line l, kind := .learn, event := .learnFailed, cause := none
        level := if s.lineInEmergency l then 7 else 1, round := s.seq.round, value := none
        transient := false, test := false }
    let failed := fun cause : Cause =>
      { s with learn := s.learn.set l none, nq := s.nq.place { notice with cause := some cause } }
    let waits := fun r : LearnRec =>
      if 3 * r.target ≤ r.attempts then failed .timeout else { s with learn := s.learn.set l (some r) }
    let r := { r0 with attempts := r0.attempts + 1 }
    (res.status = .valid → (res.cls = some .opn ∨ res.cls = some .short ∨ res.cls = some .dead) →
      s.handLearn l res = failed .fault)
    ∧ (res.status ≠ .valid → s.handLearn l res = waits r)
    ∧ ∀ z, res.status = .valid → (res.cls = some .normal ∨ res.cls = some .high ∨ res.cls = some .low) →
      res.z = some z →
        let lo := match r0.minZ with | some x => min x z | none => z
        let hi := match r0.maxZ with | some x => max x z | none => z
        let c := { r with collected := r0.collected + 1, sumZ := r0.sumZ + z, minZ := some lo, maxZ := some hi }
        let zref := (c.sumZ + c.target / 2) / c.target
        s.handLearn l res
          = if c.target ≤ c.collected then
              if (hi - lo) * 1000 ≤ c.sumZ / c.target * 50 then
                { s with
                  cfg := { s.cfg with lines := s.cfg.lines.set l { s.cfg.lines[l] with zref := some zref } }
                  learn := s.learn.set l none
                  nq := s.nq.place { notice with event := .learnDone, value := some zref } }
              else failed .spread
            else waits c

/-! ## Grants and rounds (Chapter 4) -/

/-- The grant decision (R62, R66 to R70): with credit left, the oldest eligible confirm entry is granted, removed, and
paid for; otherwise SEQ turns to the ring from its pointer on, marks the entries of OFF subjects PASSED and those of
held lines SKIPPED, and grants the first other one, restoring the credit to 2. Nothing else changes. -/
def Obligations.GrantsAreChosen : Prop :=
  ∀ s : State, s.seq.state = .granted →
    (∀ older e younger, s.seq.credit ≠ 0 → s.seq.confirm = older ++ e :: younger →
      (∀ x ∈ older, s.isOff x.subject = true ∨ s.entryHeld x = true) →
      s.isOff e.subject = false → s.entryHeld e = false →
        s.grantDecision
          = { s with
              lconv := some (Meas.fresh e.meas s.cfg.scan s.clock)
              seq := { s.seq with
                confirm := older ++ younger
                credit := s.seq.credit - 1
                counts := { s.seq.counts with confirmGrants := s.seq.counts.confirmGrants + 1 } } })
    ∧ ∀ before e after,
      (s.seq.credit = 0 ∨ ∀ x ∈ s.seq.confirm, s.isOff x.subject = true ∨ s.entryHeld x = true) →
      s.cfg.ring.drop s.seq.pointer = before ++ e :: after →
      (∀ x ∈ before, s.isOff x.subject = true ∨ s.entryHeld x = true) →
      s.isOff e.subject = false → s.entryHeld e = false →
        s.grantDecision
          = { s with
              lconv := some (Meas.fresh e.meas s.cfg.scan s.clock)
              seq := { s.seq with
                pointer := s.seq.pointer + before.length + 1
                credit := 2
                skips := s.seq.skips ++ before.zipIdx.map fun x =>
                  { position := s.seq.pointer + x.2, kind := if s.isOff x.1.subject then .passed else .skipped }
                counts :=
                  { slotGrants := s.seq.counts.slotGrants + 1
                    confirmGrants := s.seq.counts.confirmGrants
                    passed := s.seq.counts.passed + before.countP fun x => s.isOff x.subject
                    skipped := s.seq.counts.skipped + before.countP fun x => !s.isOff x.subject } } }

/-- Rounds (R60, R61, R63, R64, R65, R77, R152): when nothing on the ring is left to grant, the round number advances, the
statistics are written and the outputs count the round; the next round starts at once when the period in use is 0 or
has passed, and otherwise SEQ waits for it. A round starts on the ring in force, rebuilt where the mark is set, with its
REF grant, a full credit, and the period then in force. An output whose start interval is reached enters RUNNING, a HEALTHY
PULSED one with a new pulse period at that instant. Nothing else changes. (The clock is the model's: log 2.) -/
def Obligations.RoundsEndAndStart : Prop :=
  (∀ s : State, s.seq.state = .periodWait →
    exec .periodWaitExpiry s
      = .next { s with
          clock := max s.clock (s.seq.roundStart + s.seq.periodInUse * 24576)
          cfg := { s.cfg with ring := if s.seq.rebuildPending then defaultRing s.cfg.lines else s.cfg.ring }
          lconv := some (Meas.fresh .ref s.cfg.scan (max s.clock (s.seq.roundStart + s.seq.periodInUse * 24576)))
          seq := { s.seq with
            state := .granted, rebuildPending := false, pointer := 0
            roundStart := max s.clock (s.seq.roundStart + s.seq.periodInUse * 24576)
            periodInUse := s.cfg.scan.period, credit := 2, skips := []
            counts := { slotGrants := 1, confirmGrants := 0, passed := 0, skipped := 0 } } })
  ∧ ∀ s : State, s.seq.state = .granted →
    (s.seq.credit = 0 ∨ ∀ x ∈ s.seq.confirm, s.isOff x.subject = true ∨ s.entryHeld x = true) →
    (∀ x ∈ s.cfg.ring.drop s.seq.pointer, s.isOff x.subject = true ∨ s.entryHeld x = true) →
    let left := s.cfg.ring.drop s.seq.pointer
    let counts : RoundCounts :=
      { s.seq.counts with
        passed := s.seq.counts.passed + left.countP fun x => s.isOff x.subject
        skipped := s.seq.counts.skipped + left.countP fun x => !s.isOff x.subject }
    let stats : RoundStats :=
      { round := s.seq.round, durationMs := (s.clock - s.seq.roundStart) / 24576, counts := counts }
    let late := s.seq.periodInUse = 0 ∨ s.seq.periodInUse * 24576 ≤ s.clock - s.seq.roundStart
    let counted := fun o : OutputId =>
      let l := s.fout.get o
      match l.state with
      | .starting n =>
        if (if (s.cfg.out o).short then 3 else 10) ≤ n + 1 then
          { l with state := .running, pulse := newPeriod (s.cfg.out o) l.unhealthy s.clock }
        else { l with state := .starting (n + 1) }
      | .off => l
      | .running => l
    let fout : Fout := { a := counted .fltA, b := counted .fltB }
    s.grantDecision
      = (if late then
          { s with
            cfg := { s.cfg with ring := if s.seq.rebuildPending then defaultRing s.cfg.lines else s.cfg.ring }
            lconv := some (Meas.fresh .ref s.cfg.scan s.clock)
            fout := fout
            seq := { s.seq with
              rebuildPending := false, pointer := 0, round := s.seq.round + 1, roundStart := s.clock
              periodInUse := s.cfg.scan.period, credit := 2, skips := []
              counts := { slotGrants := 1, confirmGrants := 0, passed := 0, skipped := 0 }, stats := some stats } }
        else
          { s with
            fout := fout
            seq := { s.seq with
              state := .periodWait, pointer := s.seq.pointer + left.length, round := s.seq.round + 1
              skips := s.seq.skips ++ left.zipIdx.map fun x =>
                { position := s.seq.pointer + x.2, kind := if s.isOff x.1.subject then .passed else .skipped }
              counts := counts, stats := some stats } })

/-! ## Earth tests (Chapter 5) and pulses (Chapter 9) -/

/-- The end of a soak (R80, R83, R115): the reading is stored; at 220 (22.0 V) or more, BRIDGE takes a CLEAN vote and the
leakage blocks begin; below it, the line's record is INVALID with the reading and no R, BRIDGE takes a BAD vote, EARTH
none, the bias goes off, and EBRG makes its next choice; FOUT is told where BRIDGE enters or leaves ACTIVE (R111, R150,
R151). Nothing else changes. (The clock is the model's: log 2.) -/
def Obligations.SoakIsJudged : Prop :=
  ∀ (s : State) (t0 : EarthTest) (bias : BiasReading), s.ebrg.mode = .soaking t0 →
    let due := t0.biasOn + t0.soak.ms * 24576
    let good := 220 ≤ bias.val
    let judged := if good then Vote.clean else .bad
    ∃ t, exec (.soakEnd bias) s = .next t
      ∧ t = { s with clock := max s.clock due, ebrg := t.ebrg, recs := t.recs, fout := t.fout
                     nq := s.nqAfterVote (.dev .bridge) judged none }
      ∧ OutputsTold s t [.dev .bridge]
      ∧ t.ebrg.lastBias = some bias.val
      ∧ (good → t.ebrg.mode = .measuring { t0 with blockStart := due } ∧ t.ebrg.walk = s.ebrg.walk)
      ∧ (¬good → ChoiceMade s t.ebrg t.clock)
      ∧ t.recs.earthRes = (if good then s.recs.earthRes else s.recs.earthRes.set t0.line
          { round := s.seq.round, status := .invalid, r := none, bias := some bias.val, ne := none
            saturated := false, injected := false })
      ∧ (∀ id, t.cond id = if id = .dev .bridge then (s.cond id).afterVote judged .r2oo3 s.seq.round else s.cond id)
      ∧ t.recs.lineRes = s.recs.lineRes ∧ t.recs.ampRes = s.recs.ampRes ∧ t.recs.refRes = s.recs.refRes
      ∧ t.recs.minMax = s.recs.minMax ∧ t.recs.maskedRun = s.recs.maskedRun

/-- Leakage blocks and the completion of an earth test (R50, R51, R80, R84, R85, R86, R115): each block lasts 20 ms (491 520
ticks) and adds its code, a code of 4095 setting the saturated mark; after the last one R is computed, 65535 for a sum of
0, the record is written with status UNRELIABLE while REF is ACTIVE and VALID otherwise, a VALID one votes on EARTH (BAD
below the threshold in force or when saturated), of which FOUT is told where EARTH enters or leaves ACTIVE (R111, R150,
R151), the bias goes off, and EBRG makes its next choice. Nothing else changes. (The clock is the model's: log 2.) -/
def Obligations.LeakageIsMeasured : Prop :=
  ∀ (s : State) (t0 : EarthTest) (code : Code), s.ebrg.mode = .measuring t0 →
    let due := t0.blockStart + 491520
    let sum := t0.sumL + code.val
    let saturated := t0.saturated || decide (code.val = 4095)
    let t1 := { t0 with blocks := t0.blocks + 1, sumL := sum, saturated := saturated, blockStart := due }
    (t0.blocks + 1 < t0.ne →
      exec (.leakageBlockEnd code) s
        = .next { s with
            clock := max s.clock due
            ebrg := { s.ebrg with mode := .measuring t1 } })
    ∧ (t0.ne ≤ t0.blocks + 1 →
      let r := if sum = 0 then 65535 else max 1 (min 65534 ((240000 * t0.ne + sum / 2) / sum))
      let valid := s.refActive = false
      let judged := if r < (s.lineProfile t0.line).earthThreshold ∨ saturated = true then Vote.bad else .clean
      let id := CondId.line t0.line .earth
      ∃ t, exec (.leakageBlockEnd code) s = .next t
        ∧ t = { s with
            clock := max s.clock due, ebrg := t.ebrg, recs := t.recs, fout := t.fout
            nq := if valid then s.nqAfterVote id judged (some r) else s.nq
            seq := if valid then s.seqAfterVote id judged else s.seq }
        ∧ OutputsTold s t [id]
        ∧ t.ebrg.lastBias = s.ebrg.lastBias ∧ ChoiceMade s t.ebrg t.clock
        ∧ t.recs.earthRes = s.recs.earthRes.set t0.line
            { round := s.seq.round, status := if valid then .valid else .unreliable, r := some r
              bias := s.ebrg.lastBias, ne := some t0.ne, saturated := saturated
              injected := decide valid && (s.cond id).injection.isSome }
        ∧ (∀ j, t.cond j = if j = id ∧ valid then
              (s.cond j).afterVote judged (s.lineProfile t0.line).earthRule s.seq.round else s.cond j)
        ∧ t.recs.lineRes = s.recs.lineRes ∧ t.recs.ampRes = s.recs.ampRes ∧ t.recs.refRes = s.recs.refRes
        ∧ t.recs.minMax = s.recs.minMax ∧ t.recs.maskedRun = s.recs.maskedRun)

/-- A healthy PULSED output releases for 750 ms and asserts for 250 ms, in turn and without gap (R151); while it is
HEALTHY and RUNNING its pin shows the phase, inverted where the output is. (The clock is the model's: log 2.) -/
def Obligations.PulsePhasesAlternate : Prop :=
  ∀ (s : State) (o : OutputId) (ph : Pulse), (s.fout.get o).pulse = some ph →
    let ends := ph.since + (if ph.asserted then 6144000 else 18432000)
    let out := { s.fout.get o with pulse := some { asserted := !ph.asserted, since := ends } }
    exec (.pulsePhaseExpiry o) s
      = .next { s with clock := max s.clock ends, fout := s.fout.set o out }
    ∧ ((s.fout.get o).state = .running → (s.fout.get o).unhealthy = false → (s.cfg.out o).mode = .pulsed →
        out.drive (s.cfg.out o) = (if ph.asserted then .released else .asserted)
        ∧ out.level (s.cfg.out o) = (if ph.asserted = (s.cfg.out o).invert then .low else .high))
end

