-- ==== Sys2Proof/Laws/State.lean ====
section
/-! SUPPORT. One lemma per field per update of the state, so that no later proof unfolds a record update; and what a
write of a port, of a condition record and of an output leaves. -/

namespace Sys2Proof.Machine

variable (s : State)

/-! ## tick -/

@[simp] theorem State.tick_clock : s.tick.clock = s.clock + 1 := rfl
@[simp] theorem State.tick_power : s.tick.power = s.power := rfl
@[simp] theorem State.tick_boot : s.tick.boot = s.boot := rfl
@[simp] theorem State.tick_straps : s.tick.straps = s.straps := rfl
@[simp] theorem State.tick_cfg : s.tick.cfg = s.cfg := rfl
@[simp] theorem State.tick_zones : s.tick.zones = s.zones := rfl
@[simp] theorem State.tick_evac : s.tick.evac = s.evac := rfl
@[simp] theorem State.tick_pilotOn : s.tick.pilotOn = s.pilotOn := rfl
@[simp] theorem State.tick_lconv : s.tick.lconv = s.lconv := rfl
@[simp] theorem State.tick_seq : s.tick.seq = s.seq := rfl
@[simp] theorem State.tick_ebrg : s.tick.ebrg = s.ebrg := rfl
@[simp] theorem State.tick_recs : s.tick.recs = s.recs := rfl
@[simp] theorem State.tick_firstCount : s.tick.firstCount = s.firstCount := rfl
@[simp] theorem State.tick_learn : s.tick.learn = s.learn := rfl
@[simp] theorem State.tick_nq : s.tick.nq = s.nq := rfl
@[simp] theorem State.tick_fout : s.tick.fout = s.fout := rfl
@[simp] theorem State.tick_link : s.tick.link = s.link := rfl
@[simp] theorem State.tick_memory : s.tick.memory = s.memory := rfl
@[simp] theorem State.tick_freeCount : s.tick.freeCount = s.freeCount := rfl
@[simp] theorem State.tick_pending : s.tick.pending = s.pending := rfl

/-! ## waitUntil -/

@[simp] theorem State.waitUntil_clock (t : Nat) : (s.waitUntil t).clock = max s.clock t := rfl
@[simp] theorem State.waitUntil_power (t : Nat) : (s.waitUntil t).power = s.power := rfl
@[simp] theorem State.waitUntil_boot (t : Nat) : (s.waitUntil t).boot = s.boot := rfl
@[simp] theorem State.waitUntil_straps (t : Nat) : (s.waitUntil t).straps = s.straps := rfl
@[simp] theorem State.waitUntil_cfg (t : Nat) : (s.waitUntil t).cfg = s.cfg := rfl
@[simp] theorem State.waitUntil_zones (t : Nat) : (s.waitUntil t).zones = s.zones := rfl
@[simp] theorem State.waitUntil_evac (t : Nat) : (s.waitUntil t).evac = s.evac := rfl
@[simp] theorem State.waitUntil_pilotOn (t : Nat) : (s.waitUntil t).pilotOn = s.pilotOn := rfl
@[simp] theorem State.waitUntil_lconv (t : Nat) : (s.waitUntil t).lconv = s.lconv := rfl
@[simp] theorem State.waitUntil_seq (t : Nat) : (s.waitUntil t).seq = s.seq := rfl
@[simp] theorem State.waitUntil_ebrg (t : Nat) : (s.waitUntil t).ebrg = s.ebrg := rfl
@[simp] theorem State.waitUntil_recs (t : Nat) : (s.waitUntil t).recs = s.recs := rfl
@[simp] theorem State.waitUntil_firstCount (t : Nat) : (s.waitUntil t).firstCount = s.firstCount := rfl
@[simp] theorem State.waitUntil_learn (t : Nat) : (s.waitUntil t).learn = s.learn := rfl
@[simp] theorem State.waitUntil_nq (t : Nat) : (s.waitUntil t).nq = s.nq := rfl
@[simp] theorem State.waitUntil_fout (t : Nat) : (s.waitUntil t).fout = s.fout := rfl
@[simp] theorem State.waitUntil_link (t : Nat) : (s.waitUntil t).link = s.link := rfl
@[simp] theorem State.waitUntil_memory (t : Nat) : (s.waitUntil t).memory = s.memory := rfl
@[simp] theorem State.waitUntil_freeCount (t : Nat) : (s.waitUntil t).freeCount = s.freeCount := rfl
@[simp] theorem State.waitUntil_pending (t : Nat) : (s.waitUntil t).pending = s.pending := rfl

/-! ## setCond -/

@[simp] theorem State.setCond_clock (id : CondId) (x : Cond) : (s.setCond id x).clock = s.clock := rfl
@[simp] theorem State.setCond_power (id : CondId) (x : Cond) : (s.setCond id x).power = s.power := rfl
@[simp] theorem State.setCond_boot (id : CondId) (x : Cond) : (s.setCond id x).boot = s.boot := rfl
@[simp] theorem State.setCond_straps (id : CondId) (x : Cond) : (s.setCond id x).straps = s.straps := rfl
@[simp] theorem State.setCond_cfg (id : CondId) (x : Cond) : (s.setCond id x).cfg = s.cfg := rfl
@[simp] theorem State.setCond_zones (id : CondId) (x : Cond) : (s.setCond id x).zones = s.zones := rfl
@[simp] theorem State.setCond_evac (id : CondId) (x : Cond) : (s.setCond id x).evac = s.evac := rfl
@[simp] theorem State.setCond_pilotOn (id : CondId) (x : Cond) : (s.setCond id x).pilotOn = s.pilotOn := rfl
@[simp] theorem State.setCond_lconv (id : CondId) (x : Cond) : (s.setCond id x).lconv = s.lconv := rfl
@[simp] theorem State.setCond_seq (id : CondId) (x : Cond) : (s.setCond id x).seq = s.seq := rfl
@[simp] theorem State.setCond_ebrg (id : CondId) (x : Cond) : (s.setCond id x).ebrg = s.ebrg := rfl
@[simp] theorem State.setCond_recs (id : CondId) (x : Cond) : (s.setCond id x).recs = s.recs.setCond id x := rfl
@[simp] theorem State.setCond_firstCount (id : CondId) (x : Cond) : (s.setCond id x).firstCount = s.firstCount := rfl
@[simp] theorem State.setCond_learn (id : CondId) (x : Cond) : (s.setCond id x).learn = s.learn := rfl
@[simp] theorem State.setCond_nq (id : CondId) (x : Cond) : (s.setCond id x).nq = s.nq := rfl
@[simp] theorem State.setCond_fout (id : CondId) (x : Cond) : (s.setCond id x).fout = s.fout := rfl
@[simp] theorem State.setCond_link (id : CondId) (x : Cond) : (s.setCond id x).link = s.link := rfl
@[simp] theorem State.setCond_memory (id : CondId) (x : Cond) : (s.setCond id x).memory = s.memory := rfl
@[simp] theorem State.setCond_freeCount (id : CondId) (x : Cond) : (s.setCond id x).freeCount = s.freeCount := rfl
@[simp] theorem State.setCond_pending (id : CondId) (x : Cond) : (s.setCond id x).pending = s.pending := rfl

/-! ## notify -/

@[simp] theorem State.notify_clock (x : Subject) (k : NoticeKind) (ev : Event) (cause : Option Cause) (value : Option Nat) (test : Bool) : (s.notify x k ev cause value test).clock = s.clock := rfl
@[simp] theorem State.notify_power (x : Subject) (k : NoticeKind) (ev : Event) (cause : Option Cause) (value : Option Nat) (test : Bool) : (s.notify x k ev cause value test).power = s.power := rfl
@[simp] theorem State.notify_boot (x : Subject) (k : NoticeKind) (ev : Event) (cause : Option Cause) (value : Option Nat) (test : Bool) : (s.notify x k ev cause value test).boot = s.boot := rfl
@[simp] theorem State.notify_straps (x : Subject) (k : NoticeKind) (ev : Event) (cause : Option Cause) (value : Option Nat) (test : Bool) : (s.notify x k ev cause value test).straps = s.straps := rfl
@[simp] theorem State.notify_cfg (x : Subject) (k : NoticeKind) (ev : Event) (cause : Option Cause) (value : Option Nat) (test : Bool) : (s.notify x k ev cause value test).cfg = s.cfg := rfl
@[simp] theorem State.notify_zones (x : Subject) (k : NoticeKind) (ev : Event) (cause : Option Cause) (value : Option Nat) (test : Bool) : (s.notify x k ev cause value test).zones = s.zones := rfl
@[simp] theorem State.notify_evac (x : Subject) (k : NoticeKind) (ev : Event) (cause : Option Cause) (value : Option Nat) (test : Bool) : (s.notify x k ev cause value test).evac = s.evac := rfl
@[simp] theorem State.notify_pilotOn (x : Subject) (k : NoticeKind) (ev : Event) (cause : Option Cause) (value : Option Nat) (test : Bool) : (s.notify x k ev cause value test).pilotOn = s.pilotOn := rfl
@[simp] theorem State.notify_lconv (x : Subject) (k : NoticeKind) (ev : Event) (cause : Option Cause) (value : Option Nat) (test : Bool) : (s.notify x k ev cause value test).lconv = s.lconv := rfl
@[simp] theorem State.notify_seq (x : Subject) (k : NoticeKind) (ev : Event) (cause : Option Cause) (value : Option Nat) (test : Bool) : (s.notify x k ev cause value test).seq = s.seq := rfl
@[simp] theorem State.notify_ebrg (x : Subject) (k : NoticeKind) (ev : Event) (cause : Option Cause) (value : Option Nat) (test : Bool) : (s.notify x k ev cause value test).ebrg = s.ebrg := rfl
@[simp] theorem State.notify_recs (x : Subject) (k : NoticeKind) (ev : Event) (cause : Option Cause) (value : Option Nat) (test : Bool) : (s.notify x k ev cause value test).recs = s.recs := rfl
@[simp] theorem State.notify_firstCount (x : Subject) (k : NoticeKind) (ev : Event) (cause : Option Cause) (value : Option Nat) (test : Bool) : (s.notify x k ev cause value test).firstCount = s.firstCount := rfl
@[simp] theorem State.notify_learn (x : Subject) (k : NoticeKind) (ev : Event) (cause : Option Cause) (value : Option Nat) (test : Bool) : (s.notify x k ev cause value test).learn = s.learn := rfl
@[simp] theorem State.notify_nq (x : Subject) (k : NoticeKind) (ev : Event) (cause : Option Cause) (value : Option Nat) (test : Bool) : (s.notify x k ev cause value test).nq = s.nq.place (s.notice x k ev cause value test) := rfl
@[simp] theorem State.notify_fout (x : Subject) (k : NoticeKind) (ev : Event) (cause : Option Cause) (value : Option Nat) (test : Bool) : (s.notify x k ev cause value test).fout = s.fout := rfl
@[simp] theorem State.notify_link (x : Subject) (k : NoticeKind) (ev : Event) (cause : Option Cause) (value : Option Nat) (test : Bool) : (s.notify x k ev cause value test).link = s.link := rfl
@[simp] theorem State.notify_memory (x : Subject) (k : NoticeKind) (ev : Event) (cause : Option Cause) (value : Option Nat) (test : Bool) : (s.notify x k ev cause value test).memory = s.memory := rfl
@[simp] theorem State.notify_freeCount (x : Subject) (k : NoticeKind) (ev : Event) (cause : Option Cause) (value : Option Nat) (test : Bool) : (s.notify x k ev cause value test).freeCount = s.freeCount := rfl
@[simp] theorem State.notify_pending (x : Subject) (k : NoticeKind) (ev : Event) (cause : Option Cause) (value : Option Nat) (test : Bool) : (s.notify x k ev cause value test).pending = s.pending := rfl

/-! ## reevalOutputs -/

@[simp] theorem State.reevalOutputs_clock : s.reevalOutputs.clock = s.clock := rfl
@[simp] theorem State.reevalOutputs_power : s.reevalOutputs.power = s.power := rfl
@[simp] theorem State.reevalOutputs_boot : s.reevalOutputs.boot = s.boot := rfl
@[simp] theorem State.reevalOutputs_straps : s.reevalOutputs.straps = s.straps := rfl
@[simp] theorem State.reevalOutputs_cfg : s.reevalOutputs.cfg = s.cfg := rfl
@[simp] theorem State.reevalOutputs_zones : s.reevalOutputs.zones = s.zones := rfl
@[simp] theorem State.reevalOutputs_evac : s.reevalOutputs.evac = s.evac := rfl
@[simp] theorem State.reevalOutputs_pilotOn : s.reevalOutputs.pilotOn = s.pilotOn := rfl
@[simp] theorem State.reevalOutputs_lconv : s.reevalOutputs.lconv = s.lconv := rfl
@[simp] theorem State.reevalOutputs_seq : s.reevalOutputs.seq = s.seq := rfl
@[simp] theorem State.reevalOutputs_ebrg : s.reevalOutputs.ebrg = s.ebrg := rfl
@[simp] theorem State.reevalOutputs_recs : s.reevalOutputs.recs = s.recs := rfl
@[simp] theorem State.reevalOutputs_firstCount : s.reevalOutputs.firstCount = s.firstCount := rfl
@[simp] theorem State.reevalOutputs_learn : s.reevalOutputs.learn = s.learn := rfl
@[simp] theorem State.reevalOutputs_nq : s.reevalOutputs.nq = s.nq := rfl
@[simp] theorem State.reevalOutputs_link : s.reevalOutputs.link = s.link := rfl
@[simp] theorem State.reevalOutputs_memory : s.reevalOutputs.memory = s.memory := rfl
@[simp] theorem State.reevalOutputs_freeCount : s.reevalOutputs.freeCount = s.freeCount := rfl
@[simp] theorem State.reevalOutputs_pending : s.reevalOutputs.pending = s.pending := rfl

/-! ## countRoundOutputs -/

@[simp] theorem State.countRoundOutputs_clock : s.countRoundOutputs.clock = s.clock := rfl
@[simp] theorem State.countRoundOutputs_power : s.countRoundOutputs.power = s.power := rfl
@[simp] theorem State.countRoundOutputs_boot : s.countRoundOutputs.boot = s.boot := rfl
@[simp] theorem State.countRoundOutputs_straps : s.countRoundOutputs.straps = s.straps := rfl
@[simp] theorem State.countRoundOutputs_cfg : s.countRoundOutputs.cfg = s.cfg := rfl
@[simp] theorem State.countRoundOutputs_zones : s.countRoundOutputs.zones = s.zones := rfl
@[simp] theorem State.countRoundOutputs_evac : s.countRoundOutputs.evac = s.evac := rfl
@[simp] theorem State.countRoundOutputs_pilotOn : s.countRoundOutputs.pilotOn = s.pilotOn := rfl
@[simp] theorem State.countRoundOutputs_lconv : s.countRoundOutputs.lconv = s.lconv := rfl
@[simp] theorem State.countRoundOutputs_seq : s.countRoundOutputs.seq = s.seq := rfl
@[simp] theorem State.countRoundOutputs_ebrg : s.countRoundOutputs.ebrg = s.ebrg := rfl
@[simp] theorem State.countRoundOutputs_recs : s.countRoundOutputs.recs = s.recs := rfl
@[simp] theorem State.countRoundOutputs_firstCount : s.countRoundOutputs.firstCount = s.firstCount := rfl
@[simp] theorem State.countRoundOutputs_learn : s.countRoundOutputs.learn = s.learn := rfl
@[simp] theorem State.countRoundOutputs_nq : s.countRoundOutputs.nq = s.nq := rfl
@[simp] theorem State.countRoundOutputs_link : s.countRoundOutputs.link = s.link := rfl
@[simp] theorem State.countRoundOutputs_memory : s.countRoundOutputs.memory = s.memory := rfl
@[simp] theorem State.countRoundOutputs_freeCount : s.countRoundOutputs.freeCount = s.freeCount := rfl
@[simp] theorem State.countRoundOutputs_pending : s.countRoundOutputs.pending = s.pending := rfl

/-! ## setFirstCount -/

@[simp] theorem State.setFirstCount_clock (a : AmpId) (mark : Bool) : (s.setFirstCount a mark).clock = s.clock := rfl
@[simp] theorem State.setFirstCount_power (a : AmpId) (mark : Bool) : (s.setFirstCount a mark).power = s.power := rfl
@[simp] theorem State.setFirstCount_boot (a : AmpId) (mark : Bool) : (s.setFirstCount a mark).boot = s.boot := rfl
@[simp] theorem State.setFirstCount_straps (a : AmpId) (mark : Bool) : (s.setFirstCount a mark).straps = s.straps := rfl
@[simp] theorem State.setFirstCount_cfg (a : AmpId) (mark : Bool) : (s.setFirstCount a mark).cfg = s.cfg := rfl
@[simp] theorem State.setFirstCount_zones (a : AmpId) (mark : Bool) : (s.setFirstCount a mark).zones = s.zones := rfl
@[simp] theorem State.setFirstCount_evac (a : AmpId) (mark : Bool) : (s.setFirstCount a mark).evac = s.evac := rfl
@[simp] theorem State.setFirstCount_pilotOn (a : AmpId) (mark : Bool) : (s.setFirstCount a mark).pilotOn = s.pilotOn := rfl
@[simp] theorem State.setFirstCount_lconv (a : AmpId) (mark : Bool) : (s.setFirstCount a mark).lconv = s.lconv := rfl
@[simp] theorem State.setFirstCount_seq (a : AmpId) (mark : Bool) : (s.setFirstCount a mark).seq = s.seq := rfl
@[simp] theorem State.setFirstCount_ebrg (a : AmpId) (mark : Bool) : (s.setFirstCount a mark).ebrg = s.ebrg := rfl
@[simp] theorem State.setFirstCount_recs (a : AmpId) (mark : Bool) : (s.setFirstCount a mark).recs = s.recs := rfl
@[simp] theorem State.setFirstCount_firstCount (a : AmpId) (mark : Bool) : (s.setFirstCount a mark).firstCount = s.firstCount.set a mark := rfl
@[simp] theorem State.setFirstCount_learn (a : AmpId) (mark : Bool) : (s.setFirstCount a mark).learn = s.learn := rfl
@[simp] theorem State.setFirstCount_nq (a : AmpId) (mark : Bool) : (s.setFirstCount a mark).nq = s.nq := rfl
@[simp] theorem State.setFirstCount_fout (a : AmpId) (mark : Bool) : (s.setFirstCount a mark).fout = s.fout := rfl
@[simp] theorem State.setFirstCount_link (a : AmpId) (mark : Bool) : (s.setFirstCount a mark).link = s.link := rfl
@[simp] theorem State.setFirstCount_memory (a : AmpId) (mark : Bool) : (s.setFirstCount a mark).memory = s.memory := rfl
@[simp] theorem State.setFirstCount_freeCount (a : AmpId) (mark : Bool) : (s.setFirstCount a mark).freeCount = s.freeCount := rfl
@[simp] theorem State.setFirstCount_pending (a : AmpId) (mark : Bool) : (s.setFirstCount a mark).pending = s.pending := rfl

/-! ## setLearn -/

@[simp] theorem State.setLearn_clock (l : LineId) (r : Option LearnRec) : (s.setLearn l r).clock = s.clock := rfl
@[simp] theorem State.setLearn_power (l : LineId) (r : Option LearnRec) : (s.setLearn l r).power = s.power := rfl
@[simp] theorem State.setLearn_boot (l : LineId) (r : Option LearnRec) : (s.setLearn l r).boot = s.boot := rfl
@[simp] theorem State.setLearn_straps (l : LineId) (r : Option LearnRec) : (s.setLearn l r).straps = s.straps := rfl
@[simp] theorem State.setLearn_cfg (l : LineId) (r : Option LearnRec) : (s.setLearn l r).cfg = s.cfg := rfl
@[simp] theorem State.setLearn_zones (l : LineId) (r : Option LearnRec) : (s.setLearn l r).zones = s.zones := rfl
@[simp] theorem State.setLearn_evac (l : LineId) (r : Option LearnRec) : (s.setLearn l r).evac = s.evac := rfl
@[simp] theorem State.setLearn_pilotOn (l : LineId) (r : Option LearnRec) : (s.setLearn l r).pilotOn = s.pilotOn := rfl
@[simp] theorem State.setLearn_lconv (l : LineId) (r : Option LearnRec) : (s.setLearn l r).lconv = s.lconv := rfl
@[simp] theorem State.setLearn_seq (l : LineId) (r : Option LearnRec) : (s.setLearn l r).seq = s.seq := rfl
@[simp] theorem State.setLearn_ebrg (l : LineId) (r : Option LearnRec) : (s.setLearn l r).ebrg = s.ebrg := rfl
@[simp] theorem State.setLearn_recs (l : LineId) (r : Option LearnRec) : (s.setLearn l r).recs = s.recs := rfl
@[simp] theorem State.setLearn_firstCount (l : LineId) (r : Option LearnRec) : (s.setLearn l r).firstCount = s.firstCount := rfl
@[simp] theorem State.setLearn_learn (l : LineId) (r : Option LearnRec) : (s.setLearn l r).learn = s.learn.set l r := rfl
@[simp] theorem State.setLearn_nq (l : LineId) (r : Option LearnRec) : (s.setLearn l r).nq = s.nq := rfl
@[simp] theorem State.setLearn_fout (l : LineId) (r : Option LearnRec) : (s.setLearn l r).fout = s.fout := rfl
@[simp] theorem State.setLearn_link (l : LineId) (r : Option LearnRec) : (s.setLearn l r).link = s.link := rfl
@[simp] theorem State.setLearn_memory (l : LineId) (r : Option LearnRec) : (s.setLearn l r).memory = s.memory := rfl
@[simp] theorem State.setLearn_freeCount (l : LineId) (r : Option LearnRec) : (s.setLearn l r).freeCount = s.freeCount := rfl
@[simp] theorem State.setLearn_pending (l : LineId) (r : Option LearnRec) : (s.setLearn l r).pending = s.pending := rfl

/-! ## setZref -/

@[simp] theorem State.setZref_clock (l : LineId) (z : Option Nat) : (s.setZref l z).clock = s.clock := rfl
@[simp] theorem State.setZref_power (l : LineId) (z : Option Nat) : (s.setZref l z).power = s.power := rfl
@[simp] theorem State.setZref_boot (l : LineId) (z : Option Nat) : (s.setZref l z).boot = s.boot := rfl
@[simp] theorem State.setZref_straps (l : LineId) (z : Option Nat) : (s.setZref l z).straps = s.straps := rfl
@[simp] theorem State.setZref_zones (l : LineId) (z : Option Nat) : (s.setZref l z).zones = s.zones := rfl
@[simp] theorem State.setZref_evac (l : LineId) (z : Option Nat) : (s.setZref l z).evac = s.evac := rfl
@[simp] theorem State.setZref_pilotOn (l : LineId) (z : Option Nat) : (s.setZref l z).pilotOn = s.pilotOn := rfl
@[simp] theorem State.setZref_lconv (l : LineId) (z : Option Nat) : (s.setZref l z).lconv = s.lconv := rfl
@[simp] theorem State.setZref_seq (l : LineId) (z : Option Nat) : (s.setZref l z).seq = s.seq := rfl
@[simp] theorem State.setZref_ebrg (l : LineId) (z : Option Nat) : (s.setZref l z).ebrg = s.ebrg := rfl
@[simp] theorem State.setZref_recs (l : LineId) (z : Option Nat) : (s.setZref l z).recs = s.recs := rfl
@[simp] theorem State.setZref_firstCount (l : LineId) (z : Option Nat) : (s.setZref l z).firstCount = s.firstCount := rfl
@[simp] theorem State.setZref_learn (l : LineId) (z : Option Nat) : (s.setZref l z).learn = s.learn := rfl
@[simp] theorem State.setZref_nq (l : LineId) (z : Option Nat) : (s.setZref l z).nq = s.nq := rfl
@[simp] theorem State.setZref_fout (l : LineId) (z : Option Nat) : (s.setZref l z).fout = s.fout := rfl
@[simp] theorem State.setZref_link (l : LineId) (z : Option Nat) : (s.setZref l z).link = s.link := rfl
@[simp] theorem State.setZref_memory (l : LineId) (z : Option Nat) : (s.setZref l z).memory = s.memory := rfl
@[simp] theorem State.setZref_freeCount (l : LineId) (z : Option Nat) : (s.setZref l z).freeCount = s.freeCount := rfl
@[simp] theorem State.setZref_pending (l : LineId) (z : Option Nat) : (s.setZref l z).pending = s.pending := rfl

/-! ## zeroMaskedRun -/

@[simp] theorem State.zeroMaskedRun_clock (l : LineId) : (s.zeroMaskedRun l).clock = s.clock := rfl
@[simp] theorem State.zeroMaskedRun_power (l : LineId) : (s.zeroMaskedRun l).power = s.power := rfl
@[simp] theorem State.zeroMaskedRun_boot (l : LineId) : (s.zeroMaskedRun l).boot = s.boot := rfl
@[simp] theorem State.zeroMaskedRun_straps (l : LineId) : (s.zeroMaskedRun l).straps = s.straps := rfl
@[simp] theorem State.zeroMaskedRun_cfg (l : LineId) : (s.zeroMaskedRun l).cfg = s.cfg := rfl
@[simp] theorem State.zeroMaskedRun_zones (l : LineId) : (s.zeroMaskedRun l).zones = s.zones := rfl
@[simp] theorem State.zeroMaskedRun_evac (l : LineId) : (s.zeroMaskedRun l).evac = s.evac := rfl
@[simp] theorem State.zeroMaskedRun_pilotOn (l : LineId) : (s.zeroMaskedRun l).pilotOn = s.pilotOn := rfl
@[simp] theorem State.zeroMaskedRun_lconv (l : LineId) : (s.zeroMaskedRun l).lconv = s.lconv := rfl
@[simp] theorem State.zeroMaskedRun_seq (l : LineId) : (s.zeroMaskedRun l).seq = s.seq := rfl
@[simp] theorem State.zeroMaskedRun_ebrg (l : LineId) : (s.zeroMaskedRun l).ebrg = s.ebrg := rfl
@[simp] theorem State.zeroMaskedRun_firstCount (l : LineId) : (s.zeroMaskedRun l).firstCount = s.firstCount := rfl
@[simp] theorem State.zeroMaskedRun_learn (l : LineId) : (s.zeroMaskedRun l).learn = s.learn := rfl
@[simp] theorem State.zeroMaskedRun_nq (l : LineId) : (s.zeroMaskedRun l).nq = s.nq := rfl
@[simp] theorem State.zeroMaskedRun_fout (l : LineId) : (s.zeroMaskedRun l).fout = s.fout := rfl
@[simp] theorem State.zeroMaskedRun_link (l : LineId) : (s.zeroMaskedRun l).link = s.link := rfl
@[simp] theorem State.zeroMaskedRun_memory (l : LineId) : (s.zeroMaskedRun l).memory = s.memory := rfl
@[simp] theorem State.zeroMaskedRun_freeCount (l : LineId) : (s.zeroMaskedRun l).freeCount = s.freeCount := rfl
@[simp] theorem State.zeroMaskedRun_pending (l : LineId) : (s.zeroMaskedRun l).pending = s.pending := rfl

/-! ## dropNotices -/

@[simp] theorem State.dropNotices_clock (x : Subject) : (s.dropNotices x).clock = s.clock := rfl
@[simp] theorem State.dropNotices_power (x : Subject) : (s.dropNotices x).power = s.power := rfl
@[simp] theorem State.dropNotices_boot (x : Subject) : (s.dropNotices x).boot = s.boot := rfl
@[simp] theorem State.dropNotices_straps (x : Subject) : (s.dropNotices x).straps = s.straps := rfl
@[simp] theorem State.dropNotices_cfg (x : Subject) : (s.dropNotices x).cfg = s.cfg := rfl
@[simp] theorem State.dropNotices_zones (x : Subject) : (s.dropNotices x).zones = s.zones := rfl
@[simp] theorem State.dropNotices_evac (x : Subject) : (s.dropNotices x).evac = s.evac := rfl
@[simp] theorem State.dropNotices_pilotOn (x : Subject) : (s.dropNotices x).pilotOn = s.pilotOn := rfl
@[simp] theorem State.dropNotices_lconv (x : Subject) : (s.dropNotices x).lconv = s.lconv := rfl
@[simp] theorem State.dropNotices_seq (x : Subject) : (s.dropNotices x).seq = s.seq := rfl
@[simp] theorem State.dropNotices_ebrg (x : Subject) : (s.dropNotices x).ebrg = s.ebrg := rfl
@[simp] theorem State.dropNotices_recs (x : Subject) : (s.dropNotices x).recs = s.recs := rfl
@[simp] theorem State.dropNotices_firstCount (x : Subject) : (s.dropNotices x).firstCount = s.firstCount := rfl
@[simp] theorem State.dropNotices_learn (x : Subject) : (s.dropNotices x).learn = s.learn := rfl
@[simp] theorem State.dropNotices_nq (x : Subject) : (s.dropNotices x).nq = s.nq.dropSubject x := rfl
@[simp] theorem State.dropNotices_fout (x : Subject) : (s.dropNotices x).fout = s.fout := rfl
@[simp] theorem State.dropNotices_link (x : Subject) : (s.dropNotices x).link = s.link := rfl
@[simp] theorem State.dropNotices_memory (x : Subject) : (s.dropNotices x).memory = s.memory := rfl
@[simp] theorem State.dropNotices_freeCount (x : Subject) : (s.dropNotices x).freeCount = s.freeCount := rfl
@[simp] theorem State.dropNotices_pending (x : Subject) : (s.dropNotices x).pending = s.pending := rfl

/-! ## dropConfirm -/

@[simp] theorem State.dropConfirm_clock (e : RingEntry) : (s.dropConfirm e).clock = s.clock := rfl
@[simp] theorem State.dropConfirm_power (e : RingEntry) : (s.dropConfirm e).power = s.power := rfl
@[simp] theorem State.dropConfirm_boot (e : RingEntry) : (s.dropConfirm e).boot = s.boot := rfl
@[simp] theorem State.dropConfirm_straps (e : RingEntry) : (s.dropConfirm e).straps = s.straps := rfl
@[simp] theorem State.dropConfirm_cfg (e : RingEntry) : (s.dropConfirm e).cfg = s.cfg := rfl
@[simp] theorem State.dropConfirm_zones (e : RingEntry) : (s.dropConfirm e).zones = s.zones := rfl
@[simp] theorem State.dropConfirm_evac (e : RingEntry) : (s.dropConfirm e).evac = s.evac := rfl
@[simp] theorem State.dropConfirm_pilotOn (e : RingEntry) : (s.dropConfirm e).pilotOn = s.pilotOn := rfl
@[simp] theorem State.dropConfirm_lconv (e : RingEntry) : (s.dropConfirm e).lconv = s.lconv := rfl
@[simp] theorem State.dropConfirm_ebrg (e : RingEntry) : (s.dropConfirm e).ebrg = s.ebrg := rfl
@[simp] theorem State.dropConfirm_recs (e : RingEntry) : (s.dropConfirm e).recs = s.recs := rfl
@[simp] theorem State.dropConfirm_firstCount (e : RingEntry) : (s.dropConfirm e).firstCount = s.firstCount := rfl
@[simp] theorem State.dropConfirm_learn (e : RingEntry) : (s.dropConfirm e).learn = s.learn := rfl
@[simp] theorem State.dropConfirm_nq (e : RingEntry) : (s.dropConfirm e).nq = s.nq := rfl
@[simp] theorem State.dropConfirm_fout (e : RingEntry) : (s.dropConfirm e).fout = s.fout := rfl
@[simp] theorem State.dropConfirm_link (e : RingEntry) : (s.dropConfirm e).link = s.link := rfl
@[simp] theorem State.dropConfirm_memory (e : RingEntry) : (s.dropConfirm e).memory = s.memory := rfl
@[simp] theorem State.dropConfirm_freeCount (e : RingEntry) : (s.dropConfirm e).freeCount = s.freeCount := rfl
@[simp] theorem State.dropConfirm_pending (e : RingEntry) : (s.dropConfirm e).pending = s.pending := rfl

/-! ## grant -/

@[simp] theorem State.grant_clock (x : MeasSubject) : (s.grant x).clock = s.clock := rfl
@[simp] theorem State.grant_power (x : MeasSubject) : (s.grant x).power = s.power := rfl
@[simp] theorem State.grant_boot (x : MeasSubject) : (s.grant x).boot = s.boot := rfl
@[simp] theorem State.grant_straps (x : MeasSubject) : (s.grant x).straps = s.straps := rfl
@[simp] theorem State.grant_cfg (x : MeasSubject) : (s.grant x).cfg = s.cfg := rfl
@[simp] theorem State.grant_zones (x : MeasSubject) : (s.grant x).zones = s.zones := rfl
@[simp] theorem State.grant_evac (x : MeasSubject) : (s.grant x).evac = s.evac := rfl
@[simp] theorem State.grant_pilotOn (x : MeasSubject) : (s.grant x).pilotOn = s.pilotOn := rfl
@[simp] theorem State.grant_seq (x : MeasSubject) : (s.grant x).seq = s.seq := rfl
@[simp] theorem State.grant_ebrg (x : MeasSubject) : (s.grant x).ebrg = s.ebrg := rfl
@[simp] theorem State.grant_recs (x : MeasSubject) : (s.grant x).recs = s.recs := rfl
@[simp] theorem State.grant_firstCount (x : MeasSubject) : (s.grant x).firstCount = s.firstCount := rfl
@[simp] theorem State.grant_learn (x : MeasSubject) : (s.grant x).learn = s.learn := rfl
@[simp] theorem State.grant_nq (x : MeasSubject) : (s.grant x).nq = s.nq := rfl
@[simp] theorem State.grant_fout (x : MeasSubject) : (s.grant x).fout = s.fout := rfl
@[simp] theorem State.grant_link (x : MeasSubject) : (s.grant x).link = s.link := rfl
@[simp] theorem State.grant_memory (x : MeasSubject) : (s.grant x).memory = s.memory := rfl
@[simp] theorem State.grant_freeCount (x : MeasSubject) : (s.grant x).freeCount = s.freeCount := rfl
@[simp] theorem State.grant_pending (x : MeasSubject) : (s.grant x).pending = s.pending := rfl

/-! ## releaseLconv -/

@[simp] theorem State.releaseLconv_clock : s.releaseLconv.clock = s.clock := rfl
@[simp] theorem State.releaseLconv_power : s.releaseLconv.power = s.power := rfl
@[simp] theorem State.releaseLconv_boot : s.releaseLconv.boot = s.boot := rfl
@[simp] theorem State.releaseLconv_straps : s.releaseLconv.straps = s.straps := rfl
@[simp] theorem State.releaseLconv_cfg : s.releaseLconv.cfg = s.cfg := rfl
@[simp] theorem State.releaseLconv_zones : s.releaseLconv.zones = s.zones := rfl
@[simp] theorem State.releaseLconv_evac : s.releaseLconv.evac = s.evac := rfl
@[simp] theorem State.releaseLconv_pilotOn : s.releaseLconv.pilotOn = s.pilotOn := rfl
@[simp] theorem State.releaseLconv_lconv : s.releaseLconv.lconv = none := rfl
@[simp] theorem State.releaseLconv_seq : s.releaseLconv.seq = s.seq := rfl
@[simp] theorem State.releaseLconv_ebrg : s.releaseLconv.ebrg = s.ebrg := rfl
@[simp] theorem State.releaseLconv_recs : s.releaseLconv.recs = s.recs := rfl
@[simp] theorem State.releaseLconv_firstCount : s.releaseLconv.firstCount = s.firstCount := rfl
@[simp] theorem State.releaseLconv_learn : s.releaseLconv.learn = s.learn := rfl
@[simp] theorem State.releaseLconv_nq : s.releaseLconv.nq = s.nq := rfl
@[simp] theorem State.releaseLconv_fout : s.releaseLconv.fout = s.fout := rfl
@[simp] theorem State.releaseLconv_link : s.releaseLconv.link = s.link := rfl
@[simp] theorem State.releaseLconv_memory : s.releaseLconv.memory = s.memory := rfl
@[simp] theorem State.releaseLconv_freeCount : s.releaseLconv.freeCount = s.freeCount := rfl
@[simp] theorem State.releaseLconv_pending : s.releaseLconv.pending = s.pending := rfl

/-! ## setLineRes -/

@[simp] theorem State.setLineRes_clock (l : LineId) (r : LineResult) : (s.setLineRes l r).clock = s.clock := rfl
@[simp] theorem State.setLineRes_power (l : LineId) (r : LineResult) : (s.setLineRes l r).power = s.power := rfl
@[simp] theorem State.setLineRes_boot (l : LineId) (r : LineResult) : (s.setLineRes l r).boot = s.boot := rfl
@[simp] theorem State.setLineRes_straps (l : LineId) (r : LineResult) : (s.setLineRes l r).straps = s.straps := rfl
@[simp] theorem State.setLineRes_cfg (l : LineId) (r : LineResult) : (s.setLineRes l r).cfg = s.cfg := rfl
@[simp] theorem State.setLineRes_zones (l : LineId) (r : LineResult) : (s.setLineRes l r).zones = s.zones := rfl
@[simp] theorem State.setLineRes_evac (l : LineId) (r : LineResult) : (s.setLineRes l r).evac = s.evac := rfl
@[simp] theorem State.setLineRes_pilotOn (l : LineId) (r : LineResult) : (s.setLineRes l r).pilotOn = s.pilotOn := rfl
@[simp] theorem State.setLineRes_lconv (l : LineId) (r : LineResult) : (s.setLineRes l r).lconv = s.lconv := rfl
@[simp] theorem State.setLineRes_seq (l : LineId) (r : LineResult) : (s.setLineRes l r).seq = s.seq := rfl
@[simp] theorem State.setLineRes_ebrg (l : LineId) (r : LineResult) : (s.setLineRes l r).ebrg = s.ebrg := rfl
@[simp] theorem State.setLineRes_recs (l : LineId) (r : LineResult) : (s.setLineRes l r).recs = { s.recs with lineRes := s.recs.lineRes.set l r } := rfl
@[simp] theorem State.setLineRes_firstCount (l : LineId) (r : LineResult) : (s.setLineRes l r).firstCount = s.firstCount := rfl
@[simp] theorem State.setLineRes_learn (l : LineId) (r : LineResult) : (s.setLineRes l r).learn = s.learn := rfl
@[simp] theorem State.setLineRes_nq (l : LineId) (r : LineResult) : (s.setLineRes l r).nq = s.nq := rfl
@[simp] theorem State.setLineRes_fout (l : LineId) (r : LineResult) : (s.setLineRes l r).fout = s.fout := rfl
@[simp] theorem State.setLineRes_link (l : LineId) (r : LineResult) : (s.setLineRes l r).link = s.link := rfl
@[simp] theorem State.setLineRes_memory (l : LineId) (r : LineResult) : (s.setLineRes l r).memory = s.memory := rfl
@[simp] theorem State.setLineRes_freeCount (l : LineId) (r : LineResult) : (s.setLineRes l r).freeCount = s.freeCount := rfl
@[simp] theorem State.setLineRes_pending (l : LineId) (r : LineResult) : (s.setLineRes l r).pending = s.pending := rfl

/-! ## setAmpRes -/

@[simp] theorem State.setAmpRes_clock (a : AmpId) (r : AmpResult) : (s.setAmpRes a r).clock = s.clock := rfl
@[simp] theorem State.setAmpRes_power (a : AmpId) (r : AmpResult) : (s.setAmpRes a r).power = s.power := rfl
@[simp] theorem State.setAmpRes_boot (a : AmpId) (r : AmpResult) : (s.setAmpRes a r).boot = s.boot := rfl
@[simp] theorem State.setAmpRes_straps (a : AmpId) (r : AmpResult) : (s.setAmpRes a r).straps = s.straps := rfl
@[simp] theorem State.setAmpRes_cfg (a : AmpId) (r : AmpResult) : (s.setAmpRes a r).cfg = s.cfg := rfl
@[simp] theorem State.setAmpRes_zones (a : AmpId) (r : AmpResult) : (s.setAmpRes a r).zones = s.zones := rfl
@[simp] theorem State.setAmpRes_evac (a : AmpId) (r : AmpResult) : (s.setAmpRes a r).evac = s.evac := rfl
@[simp] theorem State.setAmpRes_pilotOn (a : AmpId) (r : AmpResult) : (s.setAmpRes a r).pilotOn = s.pilotOn := rfl
@[simp] theorem State.setAmpRes_lconv (a : AmpId) (r : AmpResult) : (s.setAmpRes a r).lconv = s.lconv := rfl
@[simp] theorem State.setAmpRes_seq (a : AmpId) (r : AmpResult) : (s.setAmpRes a r).seq = s.seq := rfl
@[simp] theorem State.setAmpRes_ebrg (a : AmpId) (r : AmpResult) : (s.setAmpRes a r).ebrg = s.ebrg := rfl
@[simp] theorem State.setAmpRes_recs (a : AmpId) (r : AmpResult) : (s.setAmpRes a r).recs = { s.recs with ampRes := s.recs.ampRes.set a r } := rfl
@[simp] theorem State.setAmpRes_firstCount (a : AmpId) (r : AmpResult) : (s.setAmpRes a r).firstCount = s.firstCount := rfl
@[simp] theorem State.setAmpRes_learn (a : AmpId) (r : AmpResult) : (s.setAmpRes a r).learn = s.learn := rfl
@[simp] theorem State.setAmpRes_nq (a : AmpId) (r : AmpResult) : (s.setAmpRes a r).nq = s.nq := rfl
@[simp] theorem State.setAmpRes_fout (a : AmpId) (r : AmpResult) : (s.setAmpRes a r).fout = s.fout := rfl
@[simp] theorem State.setAmpRes_link (a : AmpId) (r : AmpResult) : (s.setAmpRes a r).link = s.link := rfl
@[simp] theorem State.setAmpRes_memory (a : AmpId) (r : AmpResult) : (s.setAmpRes a r).memory = s.memory := rfl
@[simp] theorem State.setAmpRes_freeCount (a : AmpId) (r : AmpResult) : (s.setAmpRes a r).freeCount = s.freeCount := rfl
@[simp] theorem State.setAmpRes_pending (a : AmpId) (r : AmpResult) : (s.setAmpRes a r).pending = s.pending := rfl

/-! ## setEarthRes -/

@[simp] theorem State.setEarthRes_clock (l : LineId) (r : EarthResult) : (s.setEarthRes l r).clock = s.clock := rfl
@[simp] theorem State.setEarthRes_power (l : LineId) (r : EarthResult) : (s.setEarthRes l r).power = s.power := rfl
@[simp] theorem State.setEarthRes_boot (l : LineId) (r : EarthResult) : (s.setEarthRes l r).boot = s.boot := rfl
@[simp] theorem State.setEarthRes_straps (l : LineId) (r : EarthResult) : (s.setEarthRes l r).straps = s.straps := rfl
@[simp] theorem State.setEarthRes_cfg (l : LineId) (r : EarthResult) : (s.setEarthRes l r).cfg = s.cfg := rfl
@[simp] theorem State.setEarthRes_zones (l : LineId) (r : EarthResult) : (s.setEarthRes l r).zones = s.zones := rfl
@[simp] theorem State.setEarthRes_evac (l : LineId) (r : EarthResult) : (s.setEarthRes l r).evac = s.evac := rfl
@[simp] theorem State.setEarthRes_pilotOn (l : LineId) (r : EarthResult) : (s.setEarthRes l r).pilotOn = s.pilotOn := rfl
@[simp] theorem State.setEarthRes_lconv (l : LineId) (r : EarthResult) : (s.setEarthRes l r).lconv = s.lconv := rfl
@[simp] theorem State.setEarthRes_seq (l : LineId) (r : EarthResult) : (s.setEarthRes l r).seq = s.seq := rfl
@[simp] theorem State.setEarthRes_ebrg (l : LineId) (r : EarthResult) : (s.setEarthRes l r).ebrg = s.ebrg := rfl
@[simp] theorem State.setEarthRes_recs (l : LineId) (r : EarthResult) : (s.setEarthRes l r).recs = { s.recs with earthRes := s.recs.earthRes.set l r } := rfl
@[simp] theorem State.setEarthRes_firstCount (l : LineId) (r : EarthResult) : (s.setEarthRes l r).firstCount = s.firstCount := rfl
@[simp] theorem State.setEarthRes_learn (l : LineId) (r : EarthResult) : (s.setEarthRes l r).learn = s.learn := rfl
@[simp] theorem State.setEarthRes_nq (l : LineId) (r : EarthResult) : (s.setEarthRes l r).nq = s.nq := rfl
@[simp] theorem State.setEarthRes_fout (l : LineId) (r : EarthResult) : (s.setEarthRes l r).fout = s.fout := rfl
@[simp] theorem State.setEarthRes_link (l : LineId) (r : EarthResult) : (s.setEarthRes l r).link = s.link := rfl
@[simp] theorem State.setEarthRes_memory (l : LineId) (r : EarthResult) : (s.setEarthRes l r).memory = s.memory := rfl
@[simp] theorem State.setEarthRes_freeCount (l : LineId) (r : EarthResult) : (s.setEarthRes l r).freeCount = s.freeCount := rfl
@[simp] theorem State.setEarthRes_pending (l : LineId) (r : EarthResult) : (s.setEarthRes l r).pending = s.pending := rfl

/-! ## setMode -/

@[simp] theorem State.setMode_clock (m : EbrgMode) : (s.setMode m).clock = s.clock := rfl
@[simp] theorem State.setMode_power (m : EbrgMode) : (s.setMode m).power = s.power := rfl
@[simp] theorem State.setMode_boot (m : EbrgMode) : (s.setMode m).boot = s.boot := rfl
@[simp] theorem State.setMode_straps (m : EbrgMode) : (s.setMode m).straps = s.straps := rfl
@[simp] theorem State.setMode_cfg (m : EbrgMode) : (s.setMode m).cfg = s.cfg := rfl
@[simp] theorem State.setMode_zones (m : EbrgMode) : (s.setMode m).zones = s.zones := rfl
@[simp] theorem State.setMode_evac (m : EbrgMode) : (s.setMode m).evac = s.evac := rfl
@[simp] theorem State.setMode_pilotOn (m : EbrgMode) : (s.setMode m).pilotOn = s.pilotOn := rfl
@[simp] theorem State.setMode_lconv (m : EbrgMode) : (s.setMode m).lconv = s.lconv := rfl
@[simp] theorem State.setMode_seq (m : EbrgMode) : (s.setMode m).seq = s.seq := rfl
@[simp] theorem State.setMode_ebrg (m : EbrgMode) : (s.setMode m).ebrg = { s.ebrg with mode := m } := rfl
@[simp] theorem State.setMode_recs (m : EbrgMode) : (s.setMode m).recs = s.recs := rfl
@[simp] theorem State.setMode_firstCount (m : EbrgMode) : (s.setMode m).firstCount = s.firstCount := rfl
@[simp] theorem State.setMode_learn (m : EbrgMode) : (s.setMode m).learn = s.learn := rfl
@[simp] theorem State.setMode_nq (m : EbrgMode) : (s.setMode m).nq = s.nq := rfl
@[simp] theorem State.setMode_fout (m : EbrgMode) : (s.setMode m).fout = s.fout := rfl
@[simp] theorem State.setMode_link (m : EbrgMode) : (s.setMode m).link = s.link := rfl
@[simp] theorem State.setMode_memory (m : EbrgMode) : (s.setMode m).memory = s.memory := rfl
@[simp] theorem State.setMode_freeCount (m : EbrgMode) : (s.setMode m).freeCount = s.freeCount := rfl
@[simp] theorem State.setMode_pending (m : EbrgMode) : (s.setMode m).pending = s.pending := rfl

/-! ## bumpCounter -/

@[simp] theorem State.bumpCounter_clock : s.bumpCounter.clock = s.clock := rfl
@[simp] theorem State.bumpCounter_power : s.bumpCounter.power = s.power := rfl
@[simp] theorem State.bumpCounter_boot : s.bumpCounter.boot = s.boot := rfl
@[simp] theorem State.bumpCounter_straps : s.bumpCounter.straps = s.straps := rfl
@[simp] theorem State.bumpCounter_cfg : s.bumpCounter.cfg = s.cfg := rfl
@[simp] theorem State.bumpCounter_zones : s.bumpCounter.zones = s.zones := rfl
@[simp] theorem State.bumpCounter_evac : s.bumpCounter.evac = s.evac := rfl
@[simp] theorem State.bumpCounter_pilotOn : s.bumpCounter.pilotOn = s.pilotOn := rfl
@[simp] theorem State.bumpCounter_lconv : s.bumpCounter.lconv = s.lconv := rfl
@[simp] theorem State.bumpCounter_seq : s.bumpCounter.seq = s.seq := rfl
@[simp] theorem State.bumpCounter_ebrg : s.bumpCounter.ebrg = s.ebrg := rfl
@[simp] theorem State.bumpCounter_recs : s.bumpCounter.recs = s.recs := rfl
@[simp] theorem State.bumpCounter_firstCount : s.bumpCounter.firstCount = s.firstCount := rfl
@[simp] theorem State.bumpCounter_learn : s.bumpCounter.learn = s.learn := rfl
@[simp] theorem State.bumpCounter_nq : s.bumpCounter.nq = s.nq := rfl
@[simp] theorem State.bumpCounter_fout : s.bumpCounter.fout = s.fout := rfl
@[simp] theorem State.bumpCounter_memory : s.bumpCounter.memory = s.memory := rfl
@[simp] theorem State.bumpCounter_freeCount : s.bumpCounter.freeCount = s.freeCount := rfl
@[simp] theorem State.bumpCounter_pending : s.bumpCounter.pending = s.pending := rfl

/-! ## takeFreeze -/

@[simp] theorem State.takeFreeze_clock : s.takeFreeze.clock = s.clock := rfl
@[simp] theorem State.takeFreeze_power : s.takeFreeze.power = s.power := rfl
@[simp] theorem State.takeFreeze_boot : s.takeFreeze.boot = s.boot := rfl
@[simp] theorem State.takeFreeze_straps : s.takeFreeze.straps = s.straps := rfl
@[simp] theorem State.takeFreeze_cfg : s.takeFreeze.cfg = s.cfg := rfl
@[simp] theorem State.takeFreeze_zones : s.takeFreeze.zones = s.zones := rfl
@[simp] theorem State.takeFreeze_evac : s.takeFreeze.evac = s.evac := rfl
@[simp] theorem State.takeFreeze_pilotOn : s.takeFreeze.pilotOn = s.pilotOn := rfl
@[simp] theorem State.takeFreeze_lconv : s.takeFreeze.lconv = s.lconv := rfl
@[simp] theorem State.takeFreeze_seq : s.takeFreeze.seq = s.seq := rfl
@[simp] theorem State.takeFreeze_ebrg : s.takeFreeze.ebrg = s.ebrg := rfl
@[simp] theorem State.takeFreeze_recs : s.takeFreeze.recs = s.recs := rfl
@[simp] theorem State.takeFreeze_firstCount : s.takeFreeze.firstCount = s.firstCount := rfl
@[simp] theorem State.takeFreeze_learn : s.takeFreeze.learn = s.learn := rfl
@[simp] theorem State.takeFreeze_nq : s.takeFreeze.nq = s.nq := rfl
@[simp] theorem State.takeFreeze_fout : s.takeFreeze.fout = s.fout := rfl
@[simp] theorem State.takeFreeze_memory : s.takeFreeze.memory = s.memory := rfl
@[simp] theorem State.takeFreeze_freeCount : s.takeFreeze.freeCount = s.freeCount := rfl
@[simp] theorem State.takeFreeze_pending : s.takeFreeze.pending = s.pending := rfl

/-! ## releaseView -/

@[simp] theorem State.releaseView_clock : s.releaseView.clock = s.clock := rfl
@[simp] theorem State.releaseView_power : s.releaseView.power = s.power := rfl
@[simp] theorem State.releaseView_boot : s.releaseView.boot = s.boot := rfl
@[simp] theorem State.releaseView_straps : s.releaseView.straps = s.straps := rfl
@[simp] theorem State.releaseView_cfg : s.releaseView.cfg = s.cfg := rfl
@[simp] theorem State.releaseView_zones : s.releaseView.zones = s.zones := rfl
@[simp] theorem State.releaseView_evac : s.releaseView.evac = s.evac := rfl
@[simp] theorem State.releaseView_pilotOn : s.releaseView.pilotOn = s.pilotOn := rfl
@[simp] theorem State.releaseView_lconv : s.releaseView.lconv = s.lconv := rfl
@[simp] theorem State.releaseView_seq : s.releaseView.seq = s.seq := rfl
@[simp] theorem State.releaseView_ebrg : s.releaseView.ebrg = s.ebrg := rfl
@[simp] theorem State.releaseView_recs : s.releaseView.recs = s.recs := rfl
@[simp] theorem State.releaseView_firstCount : s.releaseView.firstCount = s.firstCount := rfl
@[simp] theorem State.releaseView_learn : s.releaseView.learn = s.learn := rfl
@[simp] theorem State.releaseView_nq : s.releaseView.nq = s.nq := rfl
@[simp] theorem State.releaseView_fout : s.releaseView.fout = s.fout := rfl
@[simp] theorem State.releaseView_link : s.releaseView.link = { s.link with frozen := none } := rfl
@[simp] theorem State.releaseView_memory : s.releaseView.memory = s.memory := rfl
@[simp] theorem State.releaseView_freeCount : s.releaseView.freeCount = s.freeCount := rfl
@[simp] theorem State.releaseView_pending : s.releaseView.pending = s.pending := rfl

/-! ## clearMinMax -/

@[simp] theorem State.clearMinMax_clock (l : LineId) : (s.clearMinMax l).clock = s.clock := rfl
@[simp] theorem State.clearMinMax_power (l : LineId) : (s.clearMinMax l).power = s.power := rfl
@[simp] theorem State.clearMinMax_boot (l : LineId) : (s.clearMinMax l).boot = s.boot := rfl
@[simp] theorem State.clearMinMax_straps (l : LineId) : (s.clearMinMax l).straps = s.straps := rfl
@[simp] theorem State.clearMinMax_cfg (l : LineId) : (s.clearMinMax l).cfg = s.cfg := rfl
@[simp] theorem State.clearMinMax_zones (l : LineId) : (s.clearMinMax l).zones = s.zones := rfl
@[simp] theorem State.clearMinMax_evac (l : LineId) : (s.clearMinMax l).evac = s.evac := rfl
@[simp] theorem State.clearMinMax_pilotOn (l : LineId) : (s.clearMinMax l).pilotOn = s.pilotOn := rfl
@[simp] theorem State.clearMinMax_lconv (l : LineId) : (s.clearMinMax l).lconv = s.lconv := rfl
@[simp] theorem State.clearMinMax_seq (l : LineId) : (s.clearMinMax l).seq = s.seq := rfl
@[simp] theorem State.clearMinMax_ebrg (l : LineId) : (s.clearMinMax l).ebrg = s.ebrg := rfl
@[simp] theorem State.clearMinMax_firstCount (l : LineId) : (s.clearMinMax l).firstCount = s.firstCount := rfl
@[simp] theorem State.clearMinMax_learn (l : LineId) : (s.clearMinMax l).learn = s.learn := rfl
@[simp] theorem State.clearMinMax_nq (l : LineId) : (s.clearMinMax l).nq = s.nq := rfl
@[simp] theorem State.clearMinMax_fout (l : LineId) : (s.clearMinMax l).fout = s.fout := rfl
@[simp] theorem State.clearMinMax_link (l : LineId) : (s.clearMinMax l).link = s.link := rfl
@[simp] theorem State.clearMinMax_memory (l : LineId) : (s.clearMinMax l).memory = s.memory := rfl
@[simp] theorem State.clearMinMax_freeCount (l : LineId) : (s.clearMinMax l).freeCount = s.freeCount := rfl
@[simp] theorem State.clearMinMax_pending (l : LineId) : (s.clearMinMax l).pending = s.pending := rfl

/-! ## beginSave -/

@[simp] theorem State.beginSave_clock : s.beginSave.clock = s.clock := rfl
@[simp] theorem State.beginSave_power : s.beginSave.power = s.power := rfl
@[simp] theorem State.beginSave_straps : s.beginSave.straps = s.straps := rfl
@[simp] theorem State.beginSave_cfg : s.beginSave.cfg = s.cfg := rfl
@[simp] theorem State.beginSave_zones : s.beginSave.zones = s.zones := rfl
@[simp] theorem State.beginSave_evac : s.beginSave.evac = s.evac := rfl
@[simp] theorem State.beginSave_pilotOn : s.beginSave.pilotOn = s.pilotOn := rfl
@[simp] theorem State.beginSave_lconv : s.beginSave.lconv = s.lconv := rfl
@[simp] theorem State.beginSave_seq : s.beginSave.seq = s.seq := rfl
@[simp] theorem State.beginSave_ebrg : s.beginSave.ebrg = s.ebrg := rfl
@[simp] theorem State.beginSave_recs : s.beginSave.recs = s.recs := rfl
@[simp] theorem State.beginSave_firstCount : s.beginSave.firstCount = s.firstCount := rfl
@[simp] theorem State.beginSave_learn : s.beginSave.learn = s.learn := rfl
@[simp] theorem State.beginSave_nq : s.beginSave.nq = s.nq := rfl
@[simp] theorem State.beginSave_fout : s.beginSave.fout = s.fout := rfl
@[simp] theorem State.beginSave_link : s.beginSave.link = s.link := rfl
@[simp] theorem State.beginSave_memory : s.beginSave.memory = s.memory := rfl
@[simp] theorem State.beginSave_freeCount : s.beginSave.freeCount = s.freeCount := rfl
@[simp] theorem State.beginSave_pending : s.beginSave.pending = s.pending := rfl

/-! ## spoilMemory -/

@[simp] theorem State.spoilMemory_clock (image : List Byte) : (s.spoilMemory image).clock = s.clock := rfl
@[simp] theorem State.spoilMemory_power (image : List Byte) : (s.spoilMemory image).power = s.power := rfl
@[simp] theorem State.spoilMemory_boot (image : List Byte) : (s.spoilMemory image).boot = s.boot := rfl
@[simp] theorem State.spoilMemory_straps (image : List Byte) : (s.spoilMemory image).straps = s.straps := rfl
@[simp] theorem State.spoilMemory_cfg (image : List Byte) : (s.spoilMemory image).cfg = s.cfg := rfl
@[simp] theorem State.spoilMemory_zones (image : List Byte) : (s.spoilMemory image).zones = s.zones := rfl
@[simp] theorem State.spoilMemory_evac (image : List Byte) : (s.spoilMemory image).evac = s.evac := rfl
@[simp] theorem State.spoilMemory_pilotOn (image : List Byte) : (s.spoilMemory image).pilotOn = s.pilotOn := rfl
@[simp] theorem State.spoilMemory_lconv (image : List Byte) : (s.spoilMemory image).lconv = s.lconv := rfl
@[simp] theorem State.spoilMemory_seq (image : List Byte) : (s.spoilMemory image).seq = s.seq := rfl
@[simp] theorem State.spoilMemory_ebrg (image : List Byte) : (s.spoilMemory image).ebrg = s.ebrg := rfl
@[simp] theorem State.spoilMemory_recs (image : List Byte) : (s.spoilMemory image).recs = s.recs := rfl
@[simp] theorem State.spoilMemory_firstCount (image : List Byte) : (s.spoilMemory image).firstCount = s.firstCount := rfl
@[simp] theorem State.spoilMemory_learn (image : List Byte) : (s.spoilMemory image).learn = s.learn := rfl
@[simp] theorem State.spoilMemory_nq (image : List Byte) : (s.spoilMemory image).nq = s.nq := rfl
@[simp] theorem State.spoilMemory_fout (image : List Byte) : (s.spoilMemory image).fout = s.fout := rfl
@[simp] theorem State.spoilMemory_link (image : List Byte) : (s.spoilMemory image).link = s.link := rfl
@[simp] theorem State.spoilMemory_freeCount (image : List Byte) : (s.spoilMemory image).freeCount = s.freeCount + 1 := rfl
@[simp] theorem State.spoilMemory_pending (image : List Byte) : (s.spoilMemory image).pending = s.pending := rfl

/-! ## settle -/

@[simp] theorem State.settle_clock (image : ImageStatus) (cfg : Settings) : (s.settle image cfg).clock = s.clock := rfl
@[simp] theorem State.settle_power (image : ImageStatus) (cfg : Settings) : (s.settle image cfg).power = s.power := rfl
@[simp] theorem State.settle_boot (image : ImageStatus) (cfg : Settings) : (s.settle image cfg).boot = { s.boot with image := image } := rfl
@[simp] theorem State.settle_straps (image : ImageStatus) (cfg : Settings) : (s.settle image cfg).straps = s.straps := rfl
@[simp] theorem State.settle_cfg (image : ImageStatus) (cfg : Settings) : (s.settle image cfg).cfg = cfg := rfl
@[simp] theorem State.settle_zones (image : ImageStatus) (cfg : Settings) : (s.settle image cfg).zones = s.zones := rfl
@[simp] theorem State.settle_evac (image : ImageStatus) (cfg : Settings) : (s.settle image cfg).evac = s.evac := rfl
@[simp] theorem State.settle_pilotOn (image : ImageStatus) (cfg : Settings) : (s.settle image cfg).pilotOn = true := rfl
@[simp] theorem State.settle_lconv (image : ImageStatus) (cfg : Settings) : (s.settle image cfg).lconv = s.lconv := rfl
@[simp] theorem State.settle_seq (image : ImageStatus) (cfg : Settings) : (s.settle image cfg).seq = s.seq := rfl
@[simp] theorem State.settle_ebrg (image : ImageStatus) (cfg : Settings) : (s.settle image cfg).ebrg = s.ebrg := rfl
@[simp] theorem State.settle_recs (image : ImageStatus) (cfg : Settings) : (s.settle image cfg).recs = s.recs := rfl
@[simp] theorem State.settle_firstCount (image : ImageStatus) (cfg : Settings) : (s.settle image cfg).firstCount = s.firstCount := rfl
@[simp] theorem State.settle_learn (image : ImageStatus) (cfg : Settings) : (s.settle image cfg).learn = s.learn := rfl
@[simp] theorem State.settle_nq (image : ImageStatus) (cfg : Settings) : (s.settle image cfg).nq = s.nq := rfl
@[simp] theorem State.settle_fout (image : ImageStatus) (cfg : Settings) : (s.settle image cfg).fout = s.fout := rfl
@[simp] theorem State.settle_link (image : ImageStatus) (cfg : Settings) : (s.settle image cfg).link = s.link := rfl
@[simp] theorem State.settle_memory (image : ImageStatus) (cfg : Settings) : (s.settle image cfg).memory = s.memory := rfl
@[simp] theorem State.settle_freeCount (image : ImageStatus) (cfg : Settings) : (s.settle image cfg).freeCount = s.freeCount := rfl
@[simp] theorem State.settle_pending (image : ImageStatus) (cfg : Settings) : (s.settle image cfg).pending = s.pending := rfl

/-! ## setPort -/

@[simp] theorem State.setPort_clock (p : Port) (x : PortState) : (s.setPort p x).clock = s.clock := by cases p <;> rfl
@[simp] theorem State.setPort_power (p : Port) (x : PortState) : (s.setPort p x).power = s.power := by cases p <;> rfl
@[simp] theorem State.setPort_boot (p : Port) (x : PortState) : (s.setPort p x).boot = s.boot := by cases p <;> rfl
@[simp] theorem State.setPort_straps (p : Port) (x : PortState) : (s.setPort p x).straps = s.straps := by cases p <;> rfl
@[simp] theorem State.setPort_cfg (p : Port) (x : PortState) : (s.setPort p x).cfg = s.cfg := by cases p <;> rfl
@[simp] theorem State.setPort_zones (p : Port) (x : PortState) : (s.setPort p x).zones = s.zones := by cases p <;> rfl
@[simp] theorem State.setPort_evac (p : Port) (x : PortState) : (s.setPort p x).evac = s.evac := by cases p <;> rfl
@[simp] theorem State.setPort_pilotOn (p : Port) (x : PortState) : (s.setPort p x).pilotOn = s.pilotOn := by cases p <;> rfl
@[simp] theorem State.setPort_lconv (p : Port) (x : PortState) : (s.setPort p x).lconv = s.lconv := by cases p <;> rfl
@[simp] theorem State.setPort_seq (p : Port) (x : PortState) : (s.setPort p x).seq = s.seq := by cases p <;> rfl
@[simp] theorem State.setPort_ebrg (p : Port) (x : PortState) : (s.setPort p x).ebrg = s.ebrg := by cases p <;> rfl
@[simp] theorem State.setPort_recs (p : Port) (x : PortState) : (s.setPort p x).recs = s.recs := by cases p <;> rfl
@[simp] theorem State.setPort_firstCount (p : Port) (x : PortState) : (s.setPort p x).firstCount = s.firstCount := by cases p <;> rfl
@[simp] theorem State.setPort_learn (p : Port) (x : PortState) : (s.setPort p x).learn = s.learn := by cases p <;> rfl
@[simp] theorem State.setPort_nq (p : Port) (x : PortState) : (s.setPort p x).nq = s.nq := by cases p <;> rfl
@[simp] theorem State.setPort_fout (p : Port) (x : PortState) : (s.setPort p x).fout = s.fout := by cases p <;> rfl
@[simp] theorem State.setPort_memory (p : Port) (x : PortState) : (s.setPort p x).memory = s.memory := by cases p <;> rfl
@[simp] theorem State.setPort_freeCount (p : Port) (x : PortState) : (s.setPort p x).freeCount = s.freeCount := by cases p <;> rfl
@[simp] theorem State.setPort_pending (p : Port) (x : PortState) : (s.setPort p x).pending = s.pending := by cases p <;> rfl
@[simp] theorem State.setPort_link_changeCounter (p : Port) (x : PortState) :
    (s.setPort p x).link.changeCounter = s.link.changeCounter := by cases p <;> rfl
@[simp] theorem State.setPort_link_frozen (p : Port) (x : PortState) :
    (s.setPort p x).link.frozen = s.link.frozen := by cases p <;> rfl
@[simp] theorem State.setPort_link_freezeExpired (p : Port) (x : PortState) :
    (s.setPort p x).link.freezeExpired = s.link.freezeExpired := by cases p <;> rfl

/-- The port written reads as written. -/
@[simp] theorem State.port_setPort_same (p : Port) (x : PortState) : (s.setPort p x).port p = x := by cases p <;> rfl

/-- The other port is unchanged. -/
theorem State.port_setPort_ne (p q : Port) (x : PortState) (h : q ≠ p) : (s.setPort p x).port q = s.port q := by
  cases p <;> cases q <;> first | rfl | exact absurd rfl h

/-- A second write of a port replaces the first. -/
@[simp] theorem State.setPort_setPort (p : Port) (x y : PortState) : (s.setPort p x).setPort p y = s.setPort p y := by
  cases p <;> rfl

/-- Writing what a port holds changes nothing. -/
@[simp] theorem State.setPort_port (p : Port) : s.setPort p (s.port p) = s := by cases p <;> rfl

/-! ## Outputs -/

@[simp] theorem Fout.get_set_same (f : Fout) (o : OutputId) (l : OutLive) : (f.set o l).get o = l := by cases o <;> rfl

theorem Fout.get_set_ne (f : Fout) (o p : OutputId) (l : OutLive) (h : p ≠ o) : (f.set o l).get p = f.get p := by
  cases o <;> cases p <;> first | rfl | exact absurd rfl h

@[simp] theorem Settings.out_setOut_same (c : Settings) (o : OutputId) (x : OutSettings) : (c.setOut o x).out o = x := by
  cases o <;> rfl

theorem Settings.out_setOut_ne (c : Settings) (o p : OutputId) (x : OutSettings) (h : p ≠ o) :
    (c.setOut o x).out p = c.out p := by
  cases o <;> cases p <;> first | rfl | exact absurd rfl h

end Sys2Proof.Machine
end

