-- ==== Sys2Proof/Laws/Conds.lean ====
section
/-! SUPPORT. What the shared operations on condition records can do: reading after writing, a change of state with its
notice, an evaluation, a push, and what FOUT is told. -/

namespace Sys2Proof.Machine

@[simp] theorem LineConds.get_set_same (c : LineConds) (k : LineKind) (x : Cond) : (c.set k x).get k = x := by
  cases k <;> rfl

theorem LineConds.get_set_ne (c : LineConds) (k j : LineKind) (x : Cond) (h : j ≠ k) : (c.set k x).get j = c.get j := by
  cases k <;> cases j <;> first | rfl | exact absurd rfl h

@[simp] theorem AmpConds.get_set_same (c : AmpConds) (k : AmpKind) (x : Cond) : (c.set k x).get k = x := by
  cases k <;> rfl

theorem AmpConds.get_set_ne (c : AmpConds) (k j : AmpKind) (x : Cond) (h : j ≠ k) : (c.set k x).get j = c.get j := by
  cases k <;> cases j <;> first | rfl | exact absurd rfl h

@[simp] theorem DevConds.get_set_same (c : DevConds) (k : DevKind) (x : Cond) : (c.set k x).get k = x := by
  cases k <;> rfl

theorem DevConds.get_set_ne (c : DevConds) (k j : DevKind) (x : Cond) (h : j ≠ k) : (c.set k x).get j = c.get j := by
  cases k <;> cases j <;> first | rfl | exact absurd rfl h

/-- Reading a condition record after writing one. -/
theorem Records.cond_setCond (r : Records) (id j : CondId) (x : Cond) :
    (r.setCond id x).cond j = if j = id then x else r.cond j := by
  cases id with
  | line l k =>
    cases j with
    | line m n =>
      by_cases hl : m = l
      · subst hl
        by_cases hk : n = k
        · subst hk; simp [Records.cond, Records.setCond]
        · simp [Records.cond, Records.setCond, hk, LineConds.get_set_ne _ _ _ _ hk]
      · have hv : l.val ≠ m.val := fun h => hl (Fin.ext h.symm)
        simp [Records.cond, Records.setCond, hl, Vector.getElem_set_ne _ _ hv]
    | amp => simp [Records.cond, Records.setCond]
    | dev => simp [Records.cond, Records.setCond]
  | amp a k =>
    cases j with
    | amp m n =>
      by_cases hl : m = a
      · subst hl
        by_cases hk : n = k
        · subst hk; simp [Records.cond, Records.setCond]
        · simp [Records.cond, Records.setCond, hk, AmpConds.get_set_ne _ _ _ _ hk]
      · have hv : a.val ≠ m.val := fun h => hl (Fin.ext h.symm)
        simp [Records.cond, Records.setCond, hl, Vector.getElem_set_ne _ _ hv]
    | line => simp [Records.cond, Records.setCond]
    | dev => simp [Records.cond, Records.setCond]
  | dev k =>
    cases j with
    | dev n =>
      by_cases hk : n = k
      · subst hk; simp [Records.cond, Records.setCond]
      · simp [Records.cond, Records.setCond, hk, DevConds.get_set_ne _ _ _ _ hk]
    | line => simp [Records.cond, Records.setCond]
    | amp => simp [Records.cond, Records.setCond]

/-- The list of every condition record names every one (R107). -/
theorem CondId.mem_all (id : CondId) : id ∈ allSubjects.flatMap condsOf := by
  refine List.mem_flatMap.mpr ⟨id.subject, ?_, ?_⟩
  · cases id with
    | line l k =>
      exact List.mem_append_left _ (List.mem_append_left _ (List.mem_map_of_mem (List.mem_finRange l)))
    | amp a k =>
      exact List.mem_append_left _ (List.mem_append_right _ (List.mem_map_of_mem (List.mem_finRange a)))
    | dev k => exact List.mem_append_right _ List.mem_cons_self
  · cases id with
    | line l k => exact List.mem_map_of_mem (by cases k <;> decide)
    | amp a k => exact List.mem_map_of_mem (by cases k <;> decide)
    | dev k => exact List.mem_map_of_mem (by cases k <;> decide)

/-- A fact about every condition record, checked over the list of them. -/
theorem CondId.forall_of_list {P : CondId → Prop} (h : ∀ id ∈ allSubjects.flatMap condsOf, P id) (id : CondId) : P id :=
  h id id.mem_all

/-- Writing a condition record leaves the results, the figures and the masked run counts. -/
theorem Records.setCond_rest (r : Records) (id : CondId) (x : Cond) :
    (r.setCond id x).lineRes = r.lineRes ∧ (r.setCond id x).ampRes = r.ampRes ∧ (r.setCond id x).refRes = r.refRes
    ∧ (r.setCond id x).earthRes = r.earthRes ∧ (r.setCond id x).minMax = r.minMax
    ∧ (r.setCond id x).maskedRun = r.maskedRun := by
  cases id <;> exact ⟨rfl, rfl, rfl, rfl, rfl, rfl⟩

/-- Reading a condition record of a state after writing one. -/
theorem State.cond_setCond (s : State) (id j : CondId) (x : Cond) :
    (s.setCond id x).cond j = if j = id then x else s.cond j := Records.cond_setCond s.recs id j x

@[simp] theorem State.cond_notify (s : State) (x : Subject) (k : NoticeKind) (ev : Event) (cause : Option Cause)
    (value : Option Nat) (test : Bool) (j : CondId) : (s.notify x k ev cause value test).cond j = s.cond j := rfl

@[simp] theorem State.cond_reevalOutputs (s : State) (j : CondId) : s.reevalOutputs.cond j = s.cond j := rfl

/-- Handing NQ a condition notice changes the notice queue alone, and that for a reporting subject only (R113). -/
theorem State.notifyCond_spec (s : State) (id : CondId) (ev : Event) (cause : Option Cause) (value : Option Nat)
    (test : Bool) :
    s.notifyCond id ev cause value test
      = { s with nq := if s.counted id.subject = true
            then s.nq.place (s.notice id.subject (.cond id.kind) ev cause value test) else s.nq } := by
  unfold State.notifyCond State.notify
  split <;> rfl

/-- A change of a condition's state writes that record, and changes the records, the notice queue and the outputs'
own state alone (R111). -/
theorem State.moveCond_spec (s : State) (id : CondId) (new : CondState) (cause : Option Cause) (value : Option Nat)
    (test : Bool) :
    ∃ nq fout, s.moveCond id new cause value test
      = { s with
          recs := if (s.cond id).state = new then s.recs else s.recs.setCond id ((s.cond id).move new s.seq.round)
          nq := nq
          fout := fout } := by
  by_cases h : (s.cond id).state = new
  · exact ⟨s.nq, s.fout, by simp [State.moveCond, h]⟩
  · by_cases ha : new = .active
    · refine ⟨(s.moveCond id new cause value test).nq, (s.moveCond id new cause value test).fout, ?_⟩
      simp only [State.moveCond, ha, if_true, State.notifyCond_spec]
      subst ha
      simp only [h, if_false]
      rfl
    · by_cases hc : (s.cond id).state = .active
      · refine ⟨(s.moveCond id new cause value test).nq, (s.moveCond id new cause value test).fout, ?_⟩
        simp only [State.moveCond, ha, hc, if_true, if_false, State.notifyCond_spec]
        rw [hc] at h
        simp only [h, if_false]
        rfl
      · exact ⟨s.nq, s.fout, by simp [State.moveCond, h, ha, hc, State.setCond]⟩

/-- A condition record after a change of one condition's state. -/
theorem State.cond_moveCond (s : State) (id j : CondId) (new : CondState) (cause : Option Cause) (value : Option Nat)
    (test : Bool) :
    (s.moveCond id new cause value test).cond j
      = if j = id ∧ (s.cond id).state ≠ new then (s.cond id).move new s.seq.round else s.cond j := by
  obtain ⟨nq, fout, h⟩ := s.moveCond_spec id new cause value test
  rw [h]
  change (if (s.cond id).state = new then s.recs
    else s.recs.setCond id ((s.cond id).move new s.seq.round)).cond j = _
  by_cases hs : (s.cond id).state = new
  · simp only [hs, if_true, ne_eq, not_true_eq_false, and_false, if_false]; rfl
  · simp only [hs, if_false, ne_eq, not_false_eq_true, and_true, Records.cond_setCond]; rfl

/-- Evaluating any condition but NOPILOT is a change of its state to the one its window gives it (R111). -/
theorem State.evaluate_eq_moveCond (s : State) (id : CondId) (value : Option Nat) (test : Bool)
    (h : ∀ a, id ≠ .amp a .nopilot) :
    s.evaluate id value test = s.moveCond id ((s.cond id).judged (s.ruleFor id)) none value test := by
  unfold State.evaluate State.afterMove
  cases id with
  | line => rfl
  | dev => rfl
  | amp a k => cases k <;> first | rfl | exact absurd rfl (h a)

/-- A push changes SEQ's confirm queue alone (R66). -/
theorem State.push_spec (s : State) (x : Subject) :
    s.push x = { s with seq := { s.seq with confirm := (s.push x).seq.confirm } } := by
  cases x with
  | dev => rfl
  | line l => simp only [State.push, Seq.push]; split <;> (try split) <;> rfl
  | amp a => simp only [State.push, Seq.push]; split <;> (try split) <;> rfl

/-- A push keeps the confirm queue within its capacity (R66). -/
theorem Seq.push_length (q : Seq) (e : RingEntry) (h : q.confirm.length ≤ 8) : (q.push e).confirm.length ≤ 8 := by
  unfold Seq.push confirmCapacity
  split
  · exact h
  · split
    · simp; omega
    · exact h

/-- A push keeps the confirm queue free of repeats (R66). -/
theorem Seq.push_nodup (q : Seq) (e : RingEntry) (h : q.confirm.Nodup) : (q.push e).confirm.Nodup := by
  unfold Seq.push
  split
  · exact h
  · rename_i hm
    split
    · simp only [List.nodup_append, h, true_and]
      refine ⟨by simp, ?_⟩
      intro a ha b hb
      simp at hb
      subst hb
      exact fun hab => hm (hab ▸ ha)
    · exact h

/-! ## FOUT told its health (R150, R151) -/

theorem OutLive.withHealth_eq_told (l : OutLive) (o : OutSettings) (unhealthy : Bool) (now : Nat) :
    l.withHealth o unhealthy now = l.told o unhealthy now := by
  unfold OutLive.withHealth OutLive.told
  split
  · next h => subst h; rfl
  · rfl

/-- What an evaluation of FOUT does, in the words of the statements. -/
theorem State.reevalOutputs_eq_tellOutputs (s : State) : s.reevalOutputs = s.tellOutputs := by
  simp only [State.reevalOutputs, State.tellOutputs, OutLive.withHealth_eq_told]

end Sys2Proof.Machine
end

