-- ==== Sys2Proof/Laws/Link.lean ====
section
/-! SUPPORT. What the arrival of a frame can do: taken and answered, taken without a reply, dropped, ignored, or not
heard (R155 to R158). -/

namespace Sys2Proof.Machine

/-- A port that holds no frame sends nothing, so a part out of reset hears it. -/
theorem State.hears_of_free (s : State) (p : Port) (hp : s.poweredUp = true) (hf : (s.port p).held = none) :
    s.hears p = true := by
  simp [State.hears, hp, PortState.driverOn, hf]

/-- In RUNNING a unit-addressed frame is taken: its owner acts, and the port holds it with the reply (R157, R158). -/
theorem State.deliver_of_takes (s : State) (p : Port) (dest kind : Byte) (payload : List Byte)
    (unit : State → State × Answer) (multi : State → State) (h : s.takes p dest) (hl : payload.length ≤ 200) :
    s.deliver p dest kind payload unit multi
      = (unit (s.hunt p)).1.holdFrame p kind ((s.hunt p).viewFor kind) (unit (s.hunt p)).2 := by
  obtain ⟨hp, hr, hf, hd⟩ := h
  have hh := s.hears_of_free p hp hf
  simp [State.deliver, hh, Nat.not_lt.mpr hl, State.delivery, hd, hf, State.takeUnit, State.hunt, hr]

/-- In RUNNING a group or broadcast frame of one of the five kinds is taken without a reply (R156). -/
theorem State.deliver_of_takesMulti (s : State) (p : Port) (dest kind : Byte) (payload : List Byte)
    (unit : State → State × Answer) (multi : State → State) (h : s.takesMulti p dest) (hk : multicastKind kind = true)
    (hl : payload.length ≤ 200) :
    s.deliver p dest kind payload unit multi = multi (s.hunt p) := by
  obtain ⟨hp, hr, hf, hm, hd⟩ := h
  have hh := s.hears_of_free p hp hf
  simp [State.deliver, hh, Nat.not_lt.mpr hl, State.delivery, hd, hm, hk, hr, hf]

/-- A group or broadcast frame of any other kind is ignored (R156). -/
theorem State.deliver_of_ignored (s : State) (p : Port) (dest kind : Byte) (payload : List Byte)
    (unit : State → State × Answer) (multi : State → State) (hh : s.hears p = true) (hl : payload.length ≤ 200)
    (hi : s.delivery dest kind = .ignored) :
    s.deliver p dest kind payload unit multi = s.hunt p := by
  simp [State.deliver, hh, Nat.not_lt.mpr hl, hi]

/-- A frame for this part that arrives while the port holds one is dropped (R157). -/
theorem State.deliver_of_held (s : State) (p : Port) (dest kind : Byte) (payload : List Byte)
    (unit : State → State × Answer) (multi : State → State) (hh : s.hears p = true) (hl : payload.length ≤ 200)
    (hi : s.delivery dest kind ≠ .ignored) (hf : (s.port p).held.isSome = true) :
    s.deliver p dest kind payload unit multi = s.dropFrame p := by
  unfold State.deliver
  rw [if_pos hh, if_neg (Nat.not_lt.mpr hl)]
  cases hd : s.delivery dest kind with
  | ignored => exact absurd hd hi
  | unit => simp [hf]
  | multi => simp [hf]

/-- A frame that is not heard changes nothing (R155, R167). -/
theorem State.deliver_of_unheard (s : State) (p : Port) (dest kind : Byte) (payload : List Byte)
    (unit : State → State × Answer) (multi : State → State) (hh : s.hears p = false) :
    s.deliver p dest kind payload unit multi = s := by
  simp [State.deliver, hh]

/-- Answering without acting: the port holds the frame and nothing else changes (R158). -/
theorem State.holdFrame_hunt (s : State) (p : Port) (kind : Byte) (view : View) (a : Answer) :
    (s.hunt p).holdFrame p kind view a
      = s.answered p kind { status := a.status, view := view, content := a.content } a.restarts := by
  cases p <;> rfl

end Sys2Proof.Machine
end

