-- ==== Sys2Proof/Laws/Memory.lean ====
section
/-! SUPPORT. The serial memory: every write keeps the canonical form, a byte reads as it was last written, and the
memory after reset has the form (R166, R171). -/

namespace Sys2Proof.Machine

/-- The canonical form in plain words. -/
theorem Memory.wf_iff (mem : List Host.Cell) :
    Memory.wf mem = true ↔
      (mem.map Prod.fst).Pairwise (· < ·) ∧ ∀ c ∈ mem, c.1 < memorySize ∧ c.2 ≠ erasedByte := by
  simp [Memory.wf]

/-- The memory after reset, with nothing listed, has the form. -/
theorem Memory.wf_nil : Memory.wf [] = true := rfl

/-- What a written memory lists was listed before or is the byte written. -/
theorem mem_writeByte (mem : List Host.Cell) (a : Nat) (x : Byte) (c : Host.Cell) (h : c ∈ writeByte mem a x) :
    c ∈ mem ∨ (c = (a, x) ∧ x ≠ erasedByte) := by
  induction mem with
  | nil =>
    unfold writeByte at h
    split at h <;> simp_all
  | cons d rest ih =>
    obtain ⟨b, y⟩ := d
    unfold writeByte at h
    split at h
    · split at h
      · exact .inl h
      · rcases List.mem_cons.mp h with h | h
        · exact .inr ⟨h, by assumption⟩
        · exact .inl h
    · split at h
      · split at h
        · exact .inl (List.mem_cons_of_mem _ h)
        · rcases List.mem_cons.mp h with h | h
          · exact .inr ⟨h, by assumption⟩
          · exact .inl (List.mem_cons_of_mem _ h)
      · rcases List.mem_cons.mp h with h | h
        · exact .inl (h ▸ List.mem_cons_self)
        · exact (ih h).imp (List.mem_cons_of_mem _) id

/-- Writing one byte within the memory keeps the canonical form. -/
theorem Memory.wf_writeByte (mem : List Host.Cell) (a : Nat) (x : Byte) (h : Memory.wf mem = true)
    (ha : a < memorySize) : Memory.wf (writeByte mem a x) = true := by
  rw [Memory.wf_iff] at h ⊢
  obtain ⟨hp, hr⟩ := h
  refine ⟨?_, ?_⟩
  · clear hr
    induction mem with
    | nil => unfold writeByte; split <;> simp
    | cons d rest ih =>
      obtain ⟨b, y⟩ := d
      simp only [List.map_cons, List.pairwise_cons] at hp
      unfold writeByte
      split
      · rename_i hab
        split
        · simpa using hp
        · simp only [List.map_cons, List.pairwise_cons, List.mem_cons, List.mem_map] at hp ⊢
          refine ⟨?_, hp⟩
          rintro z (rfl | hz)
          · exact hab
          · exact lt_trans hab (hp.1 z hz)
      · split
        · rename_i hab
          subst hab
          split
          · exact hp.2
          · simpa using hp
        · rename_i h1 h2
          simp only [List.map_cons, List.pairwise_cons]
          refine ⟨?_, ih hp.2⟩
          intro z hz
          obtain ⟨c, hc, rfl⟩ := List.mem_map.mp hz
          rcases mem_writeByte rest a x c hc with hc | ⟨rfl, -⟩
          · exact hp.1 c.1 (List.mem_map_of_mem hc)
          · exact lt_of_le_of_ne (not_lt.mp h1) (fun h => h2 h.symm)
  · intro c hc
    rcases mem_writeByte mem a x c hc with hc | ⟨rfl, hx⟩
    · exact hr c hc
    · exact ⟨ha, hx⟩

/-- Writing bytes that end within the memory keeps the canonical form. -/
theorem Memory.wf_writeBytes (mem : List Host.Cell) (a : Nat) (xs : List Byte) (h : Memory.wf mem = true)
    (ha : a + xs.length ≤ memorySize) : Memory.wf (writeBytes mem a xs) = true := by
  induction xs generalizing mem a with
  | nil => exact h
  | cons x xs ih =>
    simp only [List.length_cons] at ha
    exact ih (writeByte mem a x) (a + 1) (Memory.wf_writeByte mem a x h (by omega)) (by omega)

/-- A byte below every listed address reads as erased. -/
theorem readByte_below (mem : List Host.Cell) (a : Nat) (h : ∀ c ∈ mem, a < c.1) : readByte mem a = erasedByte := by
  induction mem with
  | nil => rfl
  | cons d rest ih =>
    obtain ⟨b, y⟩ := d
    have hb : a < b := h (b, y) List.mem_cons_self
    simp [readByte, Nat.ne_of_lt hb, ih fun c hc => h c (List.mem_cons_of_mem _ hc)]

/-- Reading a byte after writing one, in a memory whose addresses rise. -/
theorem readByte_writeByte (mem : List Host.Cell) (a b : Nat) (x : Byte)
    (h : (mem.map Prod.fst).Pairwise (· < ·)) :
    readByte (writeByte mem a x) b = if b = a then x else readByte mem b := by
  induction mem with
  | nil =>
    by_cases hx : x = erasedByte <;> by_cases hb : b = a <;> simp [writeByte, readByte, hx, hb]
  | cons d rest ih =>
    obtain ⟨c, y⟩ := d
    simp only [List.map_cons, List.pairwise_cons] at h
    have hlow : ∀ z : Nat, z ≤ c → readByte rest z = erasedByte := fun z hz =>
      readByte_below rest z fun e he => lt_of_le_of_lt hz (h.1 e.1 (List.mem_map_of_mem he))
    unfold writeByte
    by_cases h1 : a < c
    · by_cases hx : x = erasedByte
      · by_cases hb : b = a
        · subst hb
          simp [h1, hx, readByte, Nat.ne_of_lt h1, hlow b (le_of_lt h1)]
        · simp [h1, hx, hb]
      · by_cases hb : b = a <;> simp [h1, hx, readByte, hb]
    · by_cases h2 : a = c
      · subst h2
        by_cases hx : x = erasedByte
        · by_cases hb : b = a
          · subst hb
            simp [hx, hlow b (le_refl b)]
          · simp [hx, readByte, hb]
        · by_cases hb : b = a <;> simp [hx, readByte, hb]
      · by_cases hb : b = c
        · subst hb
          simp [h1, h2, readByte, Ne.symm h2]
        · simp [h1, h2, readByte, hb, ih h.2]

/-- Writing a byte keeps the addresses rising. -/
theorem rising_writeByte (mem : List Host.Cell) (a : Nat) (x : Byte) (h : (mem.map Prod.fst).Pairwise (· < ·)) :
    ((writeByte mem a x).map Prod.fst).Pairwise (· < ·) := by
  induction mem with
  | nil => unfold writeByte; split <;> simp
  | cons d rest ih =>
    obtain ⟨b, y⟩ := d
    simp only [List.map_cons, List.pairwise_cons] at h
    unfold writeByte
    split
    · rename_i hab
      split
      · simpa using h
      · simp only [List.map_cons, List.pairwise_cons, List.mem_cons] at h ⊢
        refine ⟨?_, h⟩
        rintro z (rfl | hz)
        · exact hab
        · exact lt_trans hab (h.1 z hz)
    · split
      · rename_i hab
        subst hab
        split
        · exact h.2
        · simpa using h
      · rename_i h1 h2
        simp only [List.map_cons, List.pairwise_cons]
        refine ⟨?_, ih h.2⟩
        intro z hz
        obtain ⟨c, hc, rfl⟩ := List.mem_map.mp hz
        rcases mem_writeByte rest a x c hc with hc | ⟨rfl, -⟩
        · exact h.1 c.1 (List.mem_map_of_mem hc)
        · exact lt_of_le_of_ne (not_lt.mp h1) (fun h => h2 h.symm)

/-- Reading a byte after writing several. -/
theorem readByte_writeBytes (mem : List Host.Cell) (a b : Nat) (xs : List Byte)
    (h : (mem.map Prod.fst).Pairwise (· < ·)) :
    readByte (writeBytes mem a xs) b
      = if a ≤ b ∧ b < a + xs.length then (xs[b - a]?).getD erasedByte else readByte mem b := by
  induction xs generalizing mem a with
  | nil => simp [writeBytes]
  | cons x xs ih =>
    rw [writeBytes, ih (writeByte mem a x) (a + 1) (rising_writeByte mem a x h), readByte_writeByte mem a b x h]
    simp only [List.length_cons]
    by_cases hb : b = a
    · subst hb; simp
    · by_cases hin : a + 1 ≤ b ∧ b < a + 1 + xs.length
      · have h1 : a ≤ b ∧ b < a + (xs.length + 1) := by omega
        have h2 : b - a = b - (a + 1) + 1 := by omega
        simp [hin, h1, h2]
      · have h1 : ¬(a ≤ b ∧ b < a + (xs.length + 1)) := by omega
        rw [if_neg hin, if_neg h1, if_neg hb]

/-- Writing bytes keeps the addresses rising. -/
theorem rising_writeBytes (mem : List Host.Cell) (a : Nat) (xs : List Byte)
    (h : (mem.map Prod.fst).Pairwise (· < ·)) : ((writeBytes mem a xs).map Prod.fst).Pairwise (· < ·) := by
  induction xs generalizing mem a with
  | nil => exact h
  | cons x xs ih => exact ih (writeByte mem a x) (a + 1) (rising_writeByte mem a x h)

/-! ## A write that did not end well -/

/-- An image whose stored CRC has its high byte inverted does not load. -/
theorem loadImage_crc_inverted (mem : List Host.Cell) (h : (mem.map Prod.fst).Pairwise (· < ·))
    (hl : (loadImage mem).isSome = true) :
    loadImage (writeByte mem crcAddress (~~~ readByte mem crcAddress)) = none := by
  have hr := readByte_writeByte mem crcAddress (x := ~~~ readByte mem crcAddress) (h := h)
  generalize hm : writeByte mem crcAddress (~~~ readByte mem crcAddress) = m at hr
  have same : ∀ a n, (∀ i, i < n → a + i ≠ crcAddress) → readBytes m a n = readBytes mem a n := by
    intro a n hn
    refine List.map_congr_left fun i hi => ?_
    rw [hr, if_neg (hn i (List.mem_range.mp hi))]
  have h0 : readBytes m 0 2 = readBytes mem 0 2 := same 0 2 fun i hi => by unfold crcAddress; omega
  have h2 : readBytes m 2 2 = readBytes mem 2 2 := same 2 2 fun i hi => by unfold crcAddress; omega
  have h6 : ∀ n, readBytes m 6 n = readBytes mem 6 n := fun n => same 6 n fun i hi => by unfold crcAddress; omega
  have hcrc : bigEndian (readBytes m 4 2) ≠ bigEndian (readBytes mem 4 2) := by
    have h4 := hr 4
    have h5 := hr 5
    simp only [crcAddress] at h4 h5
    have hlt := (readByte mem 4).isLt
    have hnot : (~~~ readByte mem 4).toNat = 255 - (readByte mem 4).toNat := by
      rw [BitVec.toNat_not]
    simp only [readBytes, List.range_succ, List.range_zero, List.nil_append, List.cons_append, List.map_cons,
      List.map_nil, Nat.add_zero, Nat.reduceAdd, h4, h5, if_true, bigEndian, List.foldl_cons, List.foldl_nil]
    simp
    omega
  unfold loadImage at hl ⊢
  simp only [h0, h2, h6] at hl ⊢
  split
  · rfl
  · split
    · rfl
    · rename_i n1 n2
      rw [if_neg n1, if_neg n2] at hl
      split at hl
      · rename_i heq
        rw [if_neg (fun hc => hcrc (hc.trans heq.symm))]
      · simp at hl

/-- What the memory can hold after a write that did not end well: its old contents, the whole image, or contents that
do not load (R171). -/
theorem spoiltMemory_cases (mem : List Host.Cell) (image bytes : List Byte)
    (h : (mem.map Prod.fst).Pairwise (· < ·)) :
    spoiltMemory mem image bytes = mem ∨ spoiltMemory mem image bytes = writeBytes mem 0 image
      ∨ loadImage (spoiltMemory mem image bytes) = none := by
  simp only [spoiltMemory]
  split
  · rename_i hc
    rcases hc with hc | hc | hc
    · exact .inl hc
    · exact .inr (.inl (by rw [hc]))
    · exact .inr (.inr hc)
  · rename_i hc
    simp only [not_or] at hc
    exact .inr (.inr (loadImage_crc_inverted _ (rising_writeBytes _ _ _ h) (Option.isSome_iff_ne_none.mpr hc.2.2)))

/-- A write that did not end well keeps the canonical form. -/
theorem Memory.wf_spoiltMemory (mem : List Host.Cell) (image bytes : List Byte) (h : Memory.wf mem = true)
    (hl : bytes.length ≤ memorySize) : Memory.wf (spoiltMemory mem image bytes) = true := by
  have hw := Memory.wf_writeBytes mem 0 bytes h (by omega)
  simp only [spoiltMemory]
  split
  · exact hw
  · exact Memory.wf_writeByte _ _ _ hw (by decide)

/-- A write that did not end well changes no byte beyond those it covers, the stored CRC among them. -/
theorem readByte_spoiltMemory (mem : List Host.Cell) (image bytes : List Byte)
    (h : (mem.map Prod.fst).Pairwise (· < ·)) (hl : crcAddress < bytes.length) (a : Nat) (ha : bytes.length ≤ a) :
    readByte (spoiltMemory mem image bytes) a = readByte mem a := by
  have hw := readByte_writeBytes mem 0 a bytes h
  rw [if_neg (by omega)] at hw
  simp only [spoiltMemory]
  split
  · exact hw
  · rw [readByte_writeByte _ _ _ _ (rising_writeBytes _ _ _ h), if_neg (by omega), hw]

end Sys2Proof.Machine
end

