-- ==== Sys2Proof/Laws/PerInstr.lean ====
section
/-! SUPPORT. A fact about every command as syntax, one lemma per constructor of `Instr`: its frame, where it is a
request, has the kind byte and the payload that Syntax.lean gives it, and a well-formed one has at most 200 payload
bytes (R155, Table 10.1, Table 10.6). -/

namespace Sys2Proof.Laws.RequestFrames

/-- The frame of a request has its kind byte and its payload, other commands have no frame, and a well-formed
payload has at most 200 bytes. -/
def Statement (c : Instr) : Prop :=
  (c.request.map fun r => r.2.2.1) = c.kindByte
  ∧ (c.request.map fun r => r.2.2.2) = c.payload
  ∧ (c.wellFormed = true → ∀ pl, c.payload = some pl → pl.length ≤ 200)

/-- A well-formed command's payload has at most 200 bytes. -/
theorem payload_le (c : Instr) (h : c.wellFormed = true) (pl : List Byte) (hp : c.payload = some pl) :
    pl.length ≤ 200 := by
  simp only [Instr.wellFormed, hp, Option.all_some, Bool.and_eq_true] at h
  simpa [payloadFits] using h.1

end Sys2Proof.Laws.RequestFrames

namespace Sys2Proof.Laws

open RequestFrames

theorem RequestFrames.identify (p : Port) (dest : Byte) (payload : List Byte) :
    Statement (.identify p dest payload) :=
  ⟨rfl, rfl, payload_le _⟩

theorem RequestFrames.status (p : Port) (dest : Byte) (payload : List Byte) : Statement (.status p dest payload) :=
  ⟨rfl, rfl, payload_le _⟩

theorem RequestFrames.poll (p : Port) (dest : Byte) (payload : List Byte) : Statement (.poll p dest payload) :=
  ⟨rfl, rfl, payload_le _⟩

theorem RequestFrames.readLine (p : Port) (dest : Byte) (payload : List Byte) :
    Statement (.readLine p dest payload) :=
  ⟨rfl, rfl, payload_le _⟩

theorem RequestFrames.readAmp (p : Port) (dest : Byte) (payload : List Byte) : Statement (.readAmp p dest payload) :=
  ⟨rfl, rfl, payload_le _⟩

theorem RequestFrames.readDevice (p : Port) (dest : Byte) (payload : List Byte) :
    Statement (.readDevice p dest payload) :=
  ⟨rfl, rfl, payload_le _⟩

theorem RequestFrames.readSummary (p : Port) (dest : Byte) (payload : List Byte) :
    Statement (.readSummary p dest payload) :=
  ⟨rfl, rfl, payload_le _⟩

theorem RequestFrames.readProfile (p : Port) (dest : Byte) (payload : List Byte) :
    Statement (.readProfile p dest payload) :=
  ⟨rfl, rfl, payload_le _⟩

theorem RequestFrames.readScan (p : Port) (dest : Byte) (payload : List Byte) :
    Statement (.readScan p dest payload) :=
  ⟨rfl, rfl, payload_le _⟩

theorem RequestFrames.readOutputs (p : Port) (dest : Byte) (payload : List Byte) :
    Statement (.readOutputs p dest payload) :=
  ⟨rfl, rfl, payload_le _⟩

theorem RequestFrames.setLine (p : Port) (dest : Byte) (payload : List Byte) (order : RaceOrder) :
    Statement (.setLine p dest payload order) :=
  ⟨rfl, rfl, payload_le _⟩

theorem RequestFrames.setAmp (p : Port) (dest : Byte) (payload : List Byte) (order : RaceOrder) :
    Statement (.setAmp p dest payload order) :=
  ⟨rfl, rfl, payload_le _⟩

theorem RequestFrames.setAmpWide (p : Port) (dest : Byte) (payload : List Byte) :
    Statement (.setAmpWide p dest payload) :=
  ⟨rfl, rfl, payload_le _⟩

theorem RequestFrames.setProfile (p : Port) (dest : Byte) (payload : List Byte) :
    Statement (.setProfile p dest payload) :=
  ⟨rfl, rfl, payload_le _⟩

theorem RequestFrames.setLevels (p : Port) (dest : Byte) (payload : List Byte) :
    Statement (.setLevels p dest payload) :=
  ⟨rfl, rfl, payload_le _⟩

theorem RequestFrames.setScan (p : Port) (dest : Byte) (payload : List Byte) : Statement (.setScan p dest payload) :=
  ⟨rfl, rfl, payload_le _⟩

theorem RequestFrames.setPilot (p : Port) (dest : Byte) (payload : List Byte) (order : RaceOrder) :
    Statement (.setPilot p dest payload order) :=
  ⟨rfl, rfl, payload_le _⟩

theorem RequestFrames.setEarth (p : Port) (dest : Byte) (payload : List Byte) :
    Statement (.setEarth p dest payload) :=
  ⟨rfl, rfl, payload_le _⟩

theorem RequestFrames.setOutput (p : Port) (dest : Byte) (payload : List Byte) :
    Statement (.setOutput p dest payload) :=
  ⟨rfl, rfl, payload_le _⟩

theorem RequestFrames.setGroups (p : Port) (dest : Byte) (payload : List Byte) :
    Statement (.setGroups p dest payload) :=
  ⟨rfl, rfl, payload_le _⟩

theorem RequestFrames.learn (p : Port) (dest : Byte) (payload : List Byte) : Statement (.learn p dest payload) :=
  ⟨rfl, rfl, payload_le _⟩

theorem RequestFrames.abortLearn (p : Port) (dest : Byte) (payload : List Byte) :
    Statement (.abortLearn p dest payload) :=
  ⟨rfl, rfl, payload_le _⟩

theorem RequestFrames.testInject (p : Port) (dest : Byte) (payload : List Byte) :
    Statement (.testInject p dest payload) :=
  ⟨rfl, rfl, payload_le _⟩

theorem RequestFrames.clearLatch (p : Port) (dest : Byte) (payload : List Byte) :
    Statement (.clearLatch p dest payload) :=
  ⟨rfl, rfl, payload_le _⟩

theorem RequestFrames.clearMinmax (p : Port) (dest : Byte) (payload : List Byte) :
    Statement (.clearMinmax p dest payload) :=
  ⟨rfl, rfl, payload_le _⟩

theorem RequestFrames.emergency (p : Port) (dest : Byte) (payload : List Byte) :
    Statement (.emergency p dest payload) :=
  ⟨rfl, rfl, payload_le _⟩

theorem RequestFrames.freeze (p : Port) (dest : Byte) (payload : List Byte) : Statement (.freeze p dest payload) :=
  ⟨rfl, rfl, payload_le _⟩

theorem RequestFrames.unfreeze (p : Port) (dest : Byte) (payload : List Byte) :
    Statement (.unfreeze p dest payload) :=
  ⟨rfl, rfl, payload_le _⟩

theorem RequestFrames.saveImage (p : Port) (dest : Byte) (payload : List Byte) :
    Statement (.saveImage p dest payload) :=
  ⟨rfl, rfl, payload_le _⟩

theorem RequestFrames.restart (p : Port) (dest : Byte) (payload : List Byte) : Statement (.restart p dest payload) :=
  ⟨rfl, rfl, payload_le _⟩

theorem RequestFrames.unknownKind (p : Port) (dest : Byte) (kind : Byte) (payload : List Byte) :
    Statement (.unknownKind p dest kind payload) :=
  ⟨rfl, rfl, payload_le _⟩

theorem RequestFrames.frameDropped (p : Port) (why : DropReason) : Statement (.frameDropped p why) :=
  ⟨rfl, rfl, payload_le _⟩

theorem RequestFrames.frameGapTimeout (p : Port) : Statement (.frameGapTimeout p) :=
  ⟨rfl, rfl, payload_le _⟩

theorem RequestFrames.receiveOverrun (p : Port) (dest : Byte) (kind : Byte) :
    Statement (.receiveOverrun p dest kind) :=
  ⟨rfl, rfl, payload_le _⟩

theorem RequestFrames.replySent (p : Port) : Statement (.replySent p) :=
  ⟨rfl, rfl, payload_le _⟩

theorem RequestFrames.softRestart : Statement .softRestart :=
  ⟨rfl, rfl, payload_le _⟩

theorem RequestFrames.powerOn : Statement .powerOn :=
  ⟨rfl, rfl, payload_le _⟩

theorem RequestFrames.pinReset : Statement .pinReset :=
  ⟨rfl, rfl, payload_le _⟩

theorem RequestFrames.resetRelease (addrStraps : BitVec 6) (baudStrap : Bool) (sourceStrap : Bool) :
    Statement (.resetRelease addrStraps baudStrap sourceStrap) :=
  ⟨rfl, rfl, payload_le _⟩

theorem RequestFrames.loadStepEnd (ack : Bool) : Statement (.loadStepEnd ack) :=
  ⟨rfl, rfl, payload_le _⟩

theorem RequestFrames.imageWriteEnd (ack : Bool) (readBack : List Byte) : Statement (.imageWriteEnd ack readBack) :=
  ⟨rfl, rfl, payload_le _⟩

theorem RequestFrames.evacPinChange (low : Bool) : Statement (.evacPinChange low) :=
  ⟨rfl, rfl, payload_le _⟩

theorem RequestFrames.evacFilterExpiry : Statement .evacFilterExpiry :=
  ⟨rfl, rfl, payload_le _⟩

theorem RequestFrames.settleBlockEnd : Statement .settleBlockEnd :=
  ⟨rfl, rfl, payload_le _⟩

theorem RequestFrames.sampleBlockEnd (v i prog : Code) (thermalClosed supplyClosed : Bool) (order : RaceOrder) :
    Statement (.sampleBlockEnd v i prog thermalClosed supplyClosed order) :=
  ⟨rfl, rfl, payload_le _⟩

theorem RequestFrames.periodCountComplete (count : Nat) : Statement (.periodCountComplete count) :=
  ⟨rfl, rfl, payload_le _⟩

theorem RequestFrames.periodCountGiveUp : Statement .periodCountGiveUp :=
  ⟨rfl, rfl, payload_le _⟩

theorem RequestFrames.periodWaitExpiry : Statement .periodWaitExpiry :=
  ⟨rfl, rfl, payload_le _⟩

theorem RequestFrames.soakEnd (bias : BiasReading) : Statement (.soakEnd bias) :=
  ⟨rfl, rfl, payload_le _⟩

theorem RequestFrames.leakageBlockEnd (code : Code) : Statement (.leakageBlockEnd code) :=
  ⟨rfl, rfl, payload_le _⟩

theorem RequestFrames.pulsePhaseExpiry (o : OutputId) : Statement (.pulsePhaseExpiry o) :=
  ⟨rfl, rfl, payload_le _⟩

theorem RequestFrames.freezeExpiry : Statement .freezeExpiry :=
  ⟨rfl, rfl, payload_le _⟩

theorem RequestFrames.frameStart (p : Port) : Statement (.frameStart p) :=
  ⟨rfl, rfl, payload_le _⟩

theorem RequestFrames.frameIgnored (p : Port) (dest : Byte) (kind : Byte) : Statement (.frameIgnored p dest kind) :=
  ⟨rfl, rfl, payload_le _⟩

theorem RequestFrames.replyBegin (p : Port) : Statement (.replyBegin p) :=
  ⟨rfl, rfl, payload_le _⟩

theorem RequestFrames.powerLoss : Statement .powerLoss :=
  ⟨rfl, rfl, payload_le _⟩

end Sys2Proof.Laws
end

