-- ==== Sys2Proof/Tests/Slice0.lean ====
section
/-! SUPPORT. Tests of the model: each check of WellFormed refusing an ill-formed term, one step of each command on a
small state, figures worked in the spec, and for every statement with hypotheses a state and operands that meet them. -/

set_option Elab.async false

namespace Sys2Proof.Tests

open Sys2Proof.Machine

/-- The next state of an answer. -/
def out (o : Host.Outcome State Fault Refusal) : State :=
  match o with
  | .next t => t
  | .fault _ => State.reset
  | .refused _ => State.reset

/-- A part of unit 5 in RUNNING on the default settings: RESET_RELEASE with the source strap low. -/
def running : State := out (exec (.resetRelease 5 false false) State.reset)

/-- The same part in its Load step. -/
def loading : State := out (exec (.resetRelease 5 true true) State.reset)

/-- The part after a failed load: RUNNING, with CONFIG ACTIVE. -/
def failed : State := out (exec (.loadStepEnd true) loading)

/-- A running part that holds an IDENTIFY on PORT-A. -/
def asked : State := out (exec (.identify .portA 5 []) running)

/-- The same part while it sends the reply. -/
def sending : State := out (exec (.replyBegin .portA) asked)

/-- A running part whose line 0 learns with M = 4. -/
def learning : State := out (exec (.replySent .portA) (out (exec (.learn .portA 5 [1, 1, 0, 2, 1, 4]) running)))

/-- A running part with a frozen view. -/
def frozen : State := out (exec (.freeze .portA 0 []) running)

/-- A running part with an image write in progress. -/
def writing : State := out (exec (.replySent .portA) (out (exec (.saveImage .portA 5 []) running)))

/-- A running part whose port holds an accepted RESTART. -/
def restarting : State := out (exec (.restart .portA 5 []) running)

/-- The same part after that RESTART's reply has been sent, line 0 having been set OFF in between on the other port. -/
def replied : State :=
  out (exec (.replySent .portA) (out (exec (.setLine .portB 5 [1, 1, 0, 2, 1, 0] .earthFirst) restarting)))

/-- A measurement on its last sample block, of eight, the seven before it all at V = `v` and I = `i`. -/
def lastBlock (x : MeasSubject) (v i : Nat) (counter : PeriodCounter) : Meas :=
  { Meas.fresh x { settle := 2, accum := 1, period := 0, freezeTime := 1 } 0 with
    settled := 2, sampled := 7, sumV := 7 * v, sumI := 7 * i, v := 7, counter := counter }

/-- A running part that measures line 5, with zref 400, on its last block. -/
def lineSlot (v i : Nat) : State :=
  { running with
    lconv := some (lastBlock (.line 5) v i .idle)
    cfg := { running.cfg with lines := running.cfg.lines.set 5 { LineEntry.default 5 with zref := some 400 } } }

/-- A running part that measures AMP 2 on its last block, with a period count. -/
def ampSlot (count : Nat) : State := { running with lconv := some (lastBlock (.amp 2) 1000 1000 (.done count)) }

/-- A running part that measures REF on its last block. -/
def refSlot : State := { running with lconv := some (lastBlock .ref 2048 2048 .idle) }

/-- A running part with an earth test of line 3 in MEASURING after seven blocks of eight. -/
def leaking (sumL : Nat) : State :=
  { running with
    ebrg :=
      { running.ebrg with
        mode := .measuring
          { line := 3, soak := .ms200, ne := 8, biasOn := 0, blocks := 7, sumL := sumL, saturated := false
            blockStart := 0 } } }

/-- A part in PERIOD-WAIT. -/
def waiting : State := { running with lconv := none, seq := { running.seq with state := .periodWait } }

/-- A running part whose line 7 is HELD with HIGHZ ACTIVE and latched. -/
def heldLine : State :=
  { running with
    cfg := { running.cfg with
      lines := running.cfg.lines.set 7 { LineEntry.default 7 with state := .held, zref := some 400 } } }.setCond
    (.line 7 .highz) { Cond.cleared with window := [.bad, .bad, .bad], state := .active, latch := true }

/-- FLT-A of a running part pulsing, in its released part. -/
def pulsing : State :=
  { running with
    fout := { running.fout with
      a := { state := .running, unhealthy := false, pulse := some { asserted := false, since := 100 } } } }

/-! ## WellFormed: a term each check refuses -/

theorem test_wellformed_payload : (Instr.poll .portA 5 (List.replicate 201 0)).wellFormed = false := by decide +kernel

theorem test_wellformed_payload_limit : (Instr.poll .portA 5 (List.replicate 200 0)).wellFormed = true := by
  decide +kernel

theorem test_wellformed_unknown_kind : (Instr.unknownKind .portA 5 0x0A []).wellFormed = false := by decide +kernel

theorem test_wellformed_count : (Instr.periodCountComplete 44800).wellFormed = false := by decide +kernel

theorem test_wellformed_image : (Instr.imageWriteEnd true (List.replicate 2049 0)).wellFormed = false := by
  decide +kernel

/-! ## Figures worked in the spec -/

/-- Table 7.3, row by row with k = 2. -/
theorem test_table_7_3 :
    [CondState.clear, .pending, .active].map (fun c => [0, 1, 2].map (nextCondState 2 c))
      = [[.clear, .pending, .active], [.clear, .pending, .active], [.clear, .active, .active]] := by decide +kernel

/-- Table 3.5. -/
theorem test_table_3_5 :
    [19200, 19290, 19104, 19297, 19050].map (fun c => judgePeriod c 1200 96) = [.clean, .clean, .clean, .bad, .bad] := by
  decide +kernel

/-- Table 3.6. -/
theorem test_table_3_6 : [9607, 9660, 0, 12495].map (fun x => leakageR x 8) = [200, 199, 65535, 154] := by
  decide +kernel

/-- The worked case of section 3.8: 413, and the failing variant. -/
theorem test_learning_figures :
    candidateZref 6603 16 = 413 ∧ spreadPasses 410 416 6603 16 = true ∧ spreadPasses 380 416 6573 16 = false := by
  decide +kernel

/-- R46: truncation toward zero on both sides. -/
theorem test_deviation : [500, 499, 320, 321, 503, 319].map (fun z => deviation z 400) = [250, 247, -200, -197, 257, -202] := by
  decide +kernel

/-- R155: the CRC with generator 0x1021 and start 0xFFFF, not reflected, not inverted, of the digits 1 to 9 (the common
check value of that CRC). -/
theorem test_crc : crc16 [0x31, 0x32, 0x33, 0x34, 0x35, 0x36, 0x37, 0x38, 0x39] = 0x29B1 := by decide +kernel

/-- Section 10.6: the broadcast FREEZE is six bytes that begin 0xC3, 0x00, 0x00, 0x47. -/
theorem test_freeze_frame :
    (frameBytes 0x00 0x47 []).take 4 = [0xC3, 0x00, 0x00, 0x47] ∧ (frameBytes 0x00 0x47 []).length = 6 := by
  decide +kernel

/-- R59: the default ring runs AMP 0, LINE 0, 1, 2, AMP 1, and so on over 32 entries. -/
theorem test_default_ring :
    (defaultRing defaultLines).take 6 = [.amp 0, .line 0, .line 1, .line 2, .amp 1, .line 3]
    ∧ (defaultRing defaultLines).length = 32 := by decide +kernel

/-- R166: the image of the default settings is read back as those settings. -/
theorem test_image_round_trip : parseSettings Settings.default.bytes = some Settings.default := by decide +kernel

/-! ## One step of each command -/

theorem test_identify : (asked.port .portA).held.map (fun h => h.reply.content)
    = some (.identity 0x4A5A 2408 3 5 .defaults .none) := by decide +kernel

/-- R162: STATUS clears the dropped-frame counts it reports. -/
theorem test_status :
    let s := { running with link := { running.link with portB := { running.link.portB with dropped := 9 } } }
    (out (exec (.status .portA 5 []) s)).link.portB.dropped = 0 := by decide +kernel

/-- R147: the RESTART notice of start-up is delivered and removed. -/
theorem test_poll : (out (exec (.poll .portA 5 [1, 1, 7]) running)).nq.entries = []
    ∧ ((out (exec (.poll .portA 5 []) running)).port .portA).held.map (fun h => h.reply.status) = some .done := by
  decide +kernel

theorem test_readLine : ((out (exec (.readLine .portA 5 [24]) running)).port .portA).held.map (fun h => h.reply.status)
    = some .refusedArg := by decide +kernel

theorem test_readAmp : ((out (exec (.readAmp .portA 5 [7]) frozen)).port .portA).held.map (fun h => h.reply.view)
    = some .frozen := by decide +kernel

theorem test_readDevice : ((out (exec (.readDevice .portA 5 []) running)).port .portA).held.map (fun h => h.reply.view)
    = some .live := by decide +kernel

/-- Table 10.5: 33 entries. -/
theorem test_readSummary : (summaryEntries running).length = 33 := by decide +kernel

theorem test_readProfile : ((out (exec (.readProfile .portA 5 [3]) running)).port .portA).held.map
    (fun h => h.reply.content) = some (.profile Profile.default) := by decide +kernel

theorem test_readScan : ((out (exec (.readScan .portA 5 []) loading)).port .portA).held.map (fun h => h.reply.status)
    = some .starting := by decide +kernel

theorem test_readOutputs : ((out (exec (.readOutputs .portA 5 []) frozen)).port .portA).held.map
    (fun h => h.reply.view) = some .live := by decide +kernel

/-- R4: amp 5 and zone 9 written together; R60: the rebuild mark is set. -/
theorem test_setLine :
    let t := out (exec (.setLine .portA 5 [1, 1, 7, 3, 1, 5, 4, 1, 9] .earthFirst) running)
    (t.line 7).amp = 5 ∧ (t.line 7).zone = 9 ∧ t.seq.rebuildPending = true ∧ t.link.changeCounter = 1 := by
  decide +kernel

/-- R5, R80: setting the line under earth test OFF takes EBRG on to the next line. -/
theorem test_setLine_off :
    let t := out (exec (.setLine .portA 5 [1, 1, 0, 2, 1, 0] .earthFirst) running)
    t.ebrg.mode.chosen = some 1 ∧ t.counted (.line 0) = false := by decide +kernel

/-- R9: polarity NORMALLY-CLOSED. -/
theorem test_setAmp : ((out (exec (.setAmp .portA 5 [1, 1, 7, 3, 1, 1] .earthFirst) running)).amp 7).polarity
    = .normallyClosed := by decide +kernel

/-- R10: an overload above 4095 is clamped to it. -/
theorem test_setAmpWide :
    let t := out (exec (.setAmpWide .portA 5 [2, 2, 0xFF, 0xFF]) running)
    t.cfg.wide.overload = 4095 ∧ (t.port .portA).held.map (fun h => h.reply.status) = some .clamped := by
  decide +kernel

theorem test_setProfile : (out (exec (.setProfile .portA 5 [1, 1, 3, 12, 1, 0]) running)).cfg.profiles[(3 : ProfileId)].maskLimit
    = 1 := by decide +kernel

theorem test_setLevels : (out (exec (.setLevels .portA 5 [1, 2, 0, 9]) running)).cfg.levels[Kind.opn.index] = 7 := by
  decide +kernel

/-- R73: a ring written puts the pointer at its first entry and makes the form CUSTOM. -/
theorem test_setScan :
    let t := out (exec (.setScan .portA 5 [1, 2, 0x20, 0x00]) running)
    t.cfg.ring = [.amp 0, .line 0] ∧ t.cfg.form = .custom ∧ t.seq.pointer = 0 := by decide +kernel

/-- R19: 1000 is clamped to 1100; R20: the REF slot is consumed and AMP 0 granted. -/
theorem test_setPilot :
    let t := out (exec (.setPilot .portA 5 [1, 2, 0x03, 0xE8] .earthFirst) running)
    t.cfg.pilotD = 1100 ∧ t.lconv.map Meas.subject = some (.amp 0) := by decide +kernel

/-- R88: supervision OFF sets the walk back to the line under test. -/
theorem test_setEarth :
    let t := out (exec (.setEarth .portA 5 [1, 1, 1]) running)
    t.ebrg.mode = .idle ∧ t.ebrg.walk = 0 := by decide +kernel

theorem test_setOutput : (out (exec (.setOutput .portA 5 [1, 1, 0, 2, 1, 0]) running)).fout.a.state = .off := by
  decide +kernel

/-- R160: an address given twice is refused. -/
theorem test_setGroups :
    (out (exec (.setGroups .portA 5 [1, 2, 0x40, 0x4F]) running)).cfg.groups = [0x40, 0x4F]
    ∧ (out (exec (.setGroups .portA 5 [1, 2, 0x40, 0x40]) running)).cfg.groups = [] := by decide +kernel

theorem test_learn : learning.learn[(0 : LineId)] = some (LearnRec.start 4) := by decide +kernel

/-- R139: ABORT-LEARN hands NQ a LEARN-FAILED notice. -/
theorem test_abortLearn :
    let t := out (exec (.abortLearn .portA 5 [1, 1, 0]) learning)
    t.learn[(0 : LineId)] = none ∧ t.nq.entries.map Notice.cause = [some .power, some .aborted] := by decide +kernel

/-- R126: a count of 17 is clamped to 16. -/
theorem test_testInject : ((out (exec (.testInject .portA 5 [1, 1, 0x30, 2, 1, 12, 3, 1, 17]) running)).cond
    (.dev .ref)).injection = some 16 := by decide +kernel

/-- R122: the latch of an ACTIVE condition stays. -/
theorem test_clearLatch : ((out (exec (.clearLatch .portB 0 []) failed)).cond (.dev .config)).latch = true := by
  decide +kernel

theorem test_clearMinmax :
    let s := { running with recs := { running.recs with minMax := running.recs.minMax.set 3 ⟨1, 2⟩ } }
    (out (exec (.clearMinmax .portA 5 [1, 1, 3]) s)).recs.minMax[(3 : LineId)] = ⟨65535, 0⟩ := by decide +kernel

/-- Section 1.8, step 2: a HELD line that enters emergency has its HIGHZ announced at level 7. -/
theorem test_emergency :
    let t := out (exec (.emergency .portB 5 [1, 2, 0x00, 0x08]) heldLine)
    t.lineInEmergency 7 = true
    ∧ (t.nq.entries.getLast?).map (fun n => (n.subject, n.kind, n.level)) = some (.line 7, .cond .highz, 7) := by
  decide +kernel

/-- R164: the timer runs from the full freeze time, 5.0 s at the default. -/
theorem test_freeze : frozen.link.frozen.map Frozen.deadline = some 122880000 := by decide +kernel

theorem test_unfreeze :
    let t := out (exec (.unfreeze .portB 0 []) frozen)
    t.link.frozen = none ∧ t.link.freezeExpired = false := by decide +kernel

/-- R166: a header of 6 bytes and 317 bytes of default settings. -/
theorem test_saveImage : writing.boot.save = .writing ∧ writing.boot.saveCopy.map (fun c => c.image.length) = some 323 := by
  decide +kernel

/-- R170: a broadcast RESTART is a soft restart at the instant it is taken. -/
theorem test_restart :
    let t := out (exec (.restart .portA 0 []) learning)
    t.nq.entries.map Notice.cause = [some .command] ∧ t.learn[(0 : LineId)] = none ∧ t.boot.restartDue = none := by
  decide +kernel

theorem test_unknownKind :
    ((out (exec (.unknownKind .portA 5 0x0B []) running)).port .portA).held.map (fun h => h.reply.status)
      = some .unknownKind := by decide +kernel

/-- R155: the count stops at 255. -/
theorem test_frameDropped :
    let s := running.setPort .portB { PortState.atRest with dropped := 255 }
    (out (exec (.frameDropped .portB .crc) s)).link.portB.dropped = 255 := by decide +kernel

theorem test_frameGapTimeout :
    (out (exec (.frameGapTimeout .portA) (out (exec (.frameStart .portA) running)))).port .portA
      = { PortState.atRest with dropped := 1 } := by decide +kernel

theorem test_receiveOverrun : (out (exec (.receiveOverrun .portA 5 3) asked)).link.portA.dropped = 1 := by
  decide +kernel

theorem test_replySent : ((out (exec (.replySent .portA) asked)).port .portA).held = none := by decide +kernel

/-- R1, R170: a soft restart begins once the reply has been sent, keeps the tables of the acceptance and queues RESTART
with cause COMMAND. -/
theorem test_softRestart :
    let t := out (exec .softRestart replied)
    (out (exec .softRestart restarting)).link = restarting.link ∧ (replied.line 0).state = .off
    ∧ (t.line 0).state = .watching ∧ t.boot.phase = .running ∧ t.nq.entries.map Notice.cause = [some .command] := by
  decide +kernel

theorem test_powerOn : (out (exec .powerOn running)).power = .inReset .power
    ∧ (out (exec .powerOn running)).lconv = none := by decide +kernel

theorem test_pinReset : (out (exec .pinReset running)).power = .inReset .pin
    ∧ (out (exec .pinReset State.reset)).power = .inReset .power := by decide +kernel

/-- R156: an address strap value of 63 gives unit 62. -/
theorem test_resetRelease : (out (exec (.resetRelease 63 true false) State.reset)).straps
    = { unit := 62, baud := .b115200, source := .defaults } := by decide +kernel

/-- R168, R169: a blank memory fails the load; CONFIG is ACTIVE and its notice is the younger. -/
theorem test_loadStepEnd : failed.boot.image = .failed
    ∧ failed.nq.entries.map Notice.kind = [.restart, .cond .config] := by decide +kernel

/-- R171: a read-back that differs fails the save. -/
theorem test_imageWriteEnd_failed :
    (out (exec (.imageWriteEnd true (writing.cfg.image.set 0 0)) writing)).boot.save = .failed := by
  decide +kernel

/-- R171: a read-back that agrees completes the save. -/
theorem test_imageWriteEnd_done :
    (out (exec (.imageWriteEnd true writing.cfg.image) writing)).boot.save = .done := by
  have hs : writing.boot.save = .writing := by decide +kernel
  have hc : writing.boot.saveCopy = some writing.cfg := by decide +kernel
  simp only [exec, execImageWriteEnd, hs, hc, and_self, if_true, out, State.saveDone]
  split <;> rfl

/-- R166: the image begins with 0x2408 and its length. -/
theorem test_image_head : writing.cfg.image.take 4 = [0x24, 0x08, 0x01, 0x3D] := by decide +kernel

theorem test_evacPinChange : (out (exec (.evacPinChange true) running)).evac
    = { pinLow := true, since := some 0, filtered := false } := by decide +kernel

/-- R15, R16: after 20 ms low, every zone is in emergency. -/
theorem test_evacFilterExpiry :
    let t := out (exec .evacFilterExpiry (out (exec (.evacPinChange true) running)))
    t.evac.filtered = true ∧ t.clock = 491520 ∧ t.zoneInEmergency 15 = true := by decide +kernel

/-- R18: a block at D = 1200 lasts 76 800 ticks. -/
theorem test_settleBlockEnd : (out (exec .settleBlockEnd running)).clock = 76800
    ∧ (out (exec .settleBlockEnd running)).lconv.map Meas.settled = some 1 := by decide +kernel

/-- Section 3.5, case 1, with its last block's codes: Z = 417, dev = +42, NORMAL. -/
theorem test_sampleBlockEnd_case_1 :
    let s := { lineSlot 0 0 with lconv := (lineSlot 0 0).lconv.map fun m => { m with sumV := 7003, sumI := 16801 } }
    let r := (out (exec (.sampleBlockEnd 997 2403 0 false false .earthFirst) s)).recs.lineRes[(5 : LineId)]
    (r.meanV, r.meanI, r.z, r.dev, r.cls) = (some 1000, some 2400, some 417, some 42, some .normal) := by decide +kernel

/-- Section 3.5, case 5: a collapsed short carries Z = 22 and dev = −945 and is classed SHORT. -/
theorem test_sampleBlockEnd_case_5 :
    let r := (out (exec (.sampleBlockEnd 40 1800 0 false false .earthFirst) (lineSlot 40 1800))).recs.lineRes[(5 : LineId)]
    (r.z, r.dev, r.cls) = (some 22, some (-945), some .short) := by decide +kernel

/-- R26: the count is kept. -/
theorem test_periodCountComplete :
    let s := { running with lconv := some (lastBlock (.amp 2) 0 0 (.running 0)) }
    (out (exec (.periodCountComplete 19290) s)).lconv.map Meas.counter = some (.done 19290) := by decide +kernel

theorem test_periodCountGiveUp :
    let s := { running with lconv := some (lastBlock (.amp 2) 0 0 (.running 0)) }
    (out (exec .periodCountGiveUp s)).lconv.map Meas.counter = some .gaveUp := by decide +kernel

/-- R61, R64: the next round starts 1000 ms after the last began, with its REF slot. -/
theorem test_periodWaitExpiry :
    let t := out (exec .periodWaitExpiry waiting)
    t.clock = 24576000 ∧ t.lconv.map Meas.subject = some .ref ∧ t.seq.state = .granted := by decide +kernel

/-- R83: 22.0 V is good; 21.9 V fails, the record is INVALID and BRIDGE takes a BAD vote. -/
theorem test_soakEnd :
    (out (exec (.soakEnd 220) running)).ebrg.mode.name = .measuring
    ∧ (out (exec (.soakEnd 219) running)).recs.earthRes[(0 : LineId)].bias = some 219
    ∧ ((out (exec (.soakEnd 219) running)).cond (.dev .bridge)).window = [.bad] := by decide +kernel

/-- Table 3.6: sumL = 9 660 gives R = 199, below the threshold of 200: a BAD vote, and line 3 is pushed. -/
theorem test_leakageBlockEnd :
    let t := out (exec (.leakageBlockEnd 660) (leaking 9000))
    t.recs.earthRes[(3 : LineId)].r = some 199 ∧ (t.cond (.line 3 .earth)).window = [.bad]
    ∧ t.seq.confirm = [.line 3] := by decide +kernel

/-- R151: 750 ms released, then asserted. -/
theorem test_pulsePhaseExpiry :
    let t := out (exec (.pulsePhaseExpiry .fltA) pulsing)
    t.fout.a.pulse = some { asserted := true, since := 18432100 } ∧ t.fout.a.level t.cfg.outA = .low := by decide +kernel

/-- R165: expiry sets the indicator. -/
theorem test_freezeExpiry :
    let t := out (exec .freezeExpiry frozen)
    t.link.frozen = none ∧ t.link.freezeExpired = true ∧ t.clock = 122880000 := by decide +kernel

theorem test_frameStart : ((out (exec (.frameStart .portA) running)).port .portA).inFrame = true := by decide +kernel

theorem test_frameIgnored :
    (out (exec (.frameIgnored .portA 6 3) (out (exec (.frameStart .portA) running)))).port .portA = PortState.atRest := by
  decide +kernel

theorem test_replyBegin : sending.hears .portA = false ∧ sending.clock = 12288 := by decide +kernel

theorem test_powerLoss : (out (exec .powerLoss running)).power = .unpowered
    ∧ (out (exec .powerLoss running)).hears .portA = false := by decide +kernel

/-- The world's choice of order (R82, section 5.8): EBRG's start first holds the line; SEQ's decision first leaves EBRG
waiting when the line is granted again. -/
theorem test_race_orders :
    let s := { lineSlot 1000 2 with
      ebrg := { running.ebrg with mode := .waiting 5 }, seq := { running.seq with pointer := 0 } }
    (out (exec (.sampleBlockEnd 1000 2 0 false false .earthFirst) s)).ebrg.mode.name = .soaking
    ∧ (out (exec (.sampleBlockEnd 1000 2 0 false false .seqFirst) s)).ebrg.mode.name = .waiting := by decide +kernel

/-! ## What meets the hypotheses of each statement, in the statements' order -/

/-- A running part with a command waiting. -/
def busy : State := { running with pending := [.settleBlockEnd] }

theorem takes_running : running.takes .portA 5 := by unfold State.takes; decide +kernel

theorem takesMulti_running : running.takesMulti .portB 0 := by unfold State.takesMulti; decide +kernel

theorem cond_running (id : CondId) : running.cond id = Cond.cleared :=
  CondId.forall_of_list (P := fun id => running.cond id = Cond.cleared) (by decide +kernel) id

theorem gated_running : ReferenceGated running where
  empty := fun l _ k _ => by rw [cond_running]; exact ⟨rfl, rfl⟩
  learning_not_off := by decide +kernel
  starting_none := fun h => absurd h (by decide +kernel)

theorem witness_StepRunsTheFrontCommand : busy.pending = .settleBlockEnd :: [] ∧ running.pending = [] := by
  decide +kernel

/-- Every invariant statement's hypotheses but SettingsOk and MemoryOk hold of a part about to end a settle block. -/
theorem witness_scheduling :
    Scheduled busy ∧ ReferenceGated busy ∧ NoticesOk busy ∧ ConfirmOk busy ∧ ∃ t, step busy = .next t := by
  refine ⟨?_, ?_, ?_, ?_, _, rfl⟩
  · exact
      { granted_iff := by decide +kernel, stopped_iff := by decide +kernel, starting_idle := by decide +kernel
        running_powered := by decide +kernel, awaited_running := by decide +kernel
        loading_starting := by decide +kernel, never_meet := by decide +kernel
        waiting_measured := fun l h => absurd h (by revert l; decide +kernel)
        chosen_not_off := by decide +kernel, line_not_off := by decide +kernel, amp_not_off := by decide +kernel
        supervised := by decide +kernel }
  · exact
      { empty := fun l _ k _ => by rw [show busy.cond _ = _ from cond_running _]; exact ⟨rfl, rfl⟩
        learning_not_off := by decide +kernel
        starting_none := fun h => absurd h (by decide +kernel) }
  · exact { length_le := by decide +kernel, pairs_distinct := by decide +kernel }
  · exact
      { length_le := by decide +kernel, nodup := by decide +kernel, credit_le := by decide +kernel
        not_off := by decide +kernel }

theorem witness_StepKeepsConditionsJudged : Judged busy where
  shape := fun id => by
    rw [show busy.cond id = _ from cond_running id]
    exact ⟨by decide, nofun, nofun, fun _ => ⟨rfl, rfl, nofun⟩⟩
  settled := fun id _ => by
    rw [show busy.cond id = _ from cond_running id]
    cases busy.ruleFor id <;> rfl
  off_cleared := fun id _ => by
    rw [show busy.cond id = _ from cond_running id]
    exact ⟨rfl, rfl, rfl, rfl⟩
  one_injection := fun a _ _ h => by
    rw [show busy.cond a = _ from cond_running a] at h
    exact absurd h (by decide)

theorem inRange_profile : Profile.default.InRange := by
  constructor <;> unfold inRange <;> decide

theorem inRange_default : Settings.default.InRange where
  zref := fun l z h => by
    have hn : ∀ l : LineId, Settings.default.lines[l].zref = none := by decide +kernel
    rw [hn l] at h
    cases h
  overload := by unfold inRange; decide
  vmin := by unfold inRange; decide
  freqTol := by unfold inRange; decide
  profiles := fun i => by
    rw [show Settings.default.profiles[i] = Profile.default from by revert i; decide +kernel]
    exact inRange_profile
  pilotD := by unfold inRange; decide
  ring_length := by unfold inRange; decide +kernel
  ring_count := fun e => by
    cases e with
    | line l => revert l; decide +kernel
    | amp a => revert a; decide +kernel
  settle := by unfold inRange; decide
  accum := by unfold inRange; decide
  period := .inr (by unfold inRange; decide)
  freezeTime := by unfold inRange; decide
  ne := by unfold inRange; decide
  groups_length := by decide
  groups_range := by intro g hg; cases hg
  groups_nodup := by decide

theorem witness_StepKeepsSettingsInRange : SettingsOk busy ∧ MemoryOk busy := by
  refine ⟨⟨?_, ?_, ?_, ?_, ?_⟩, ⟨by decide +kernel, ?_⟩⟩
  · rw [show busy.cfg = Settings.default from by decide +kernel]; exact inRange_default
  · intro copy h
    rw [show busy.boot.saveCopy = none from by decide +kernel] at h
    cases h
  · intro k h
    rw [show busy.boot.restartDue = none from by decide +kernel] at h
    cases h
  · intro p h k hh hk
    have hn : ∀ p : Port, (busy.port p).held.all (fun h => h.restarts.isNone) = true := fun p => by
      cases p <;> decide +kernel
    have hp := hn p
    rw [hh] at hp
    simp [hk] at hp
  · intro l r h
    have hn : ∀ l : LineId, busy.learn[l] = none := by decide +kernel
    rw [hn l] at h
    cases h
  · intro image h
    rw [show busy.boot.saveCopy = none from by decide +kernel] at h
    cases h

theorem witness_StepKeepsOutputsInAgreement : OutputsOk busy := by
  have ha : busy.fout.a = { OutLive.atRest with state := .starting 0 } := by decide +kernel
  have hb : busy.fout.b = { OutLive.atRest with state := .starting 0 } := by decide +kernel
  refine ⟨?_, ?_, by decide +kernel, by decide +kernel⟩
  · rw [ha]
    exact ⟨by decide +kernel, fun n h => by cases h; decide +kernel, fun h => absurd h (by decide +kernel), fun _ => by decide +kernel⟩
  · rw [hb]
    exact ⟨by decide +kernel, fun n h => by cases h; decide +kernel, fun h => absurd h (by decide +kernel), fun _ => by decide +kernel⟩

theorem witness_FrameIsHeardAsSent : (List.replicate 200 (0xC3 : Byte)).length ≤ 200 := by decide +kernel

theorem witness_FrameSpellsItsCommand :
    let c := Instr.setLine .portB 5 [1, 1, 7] .seqFirst
    c.request = some (.portB, 5, 0x21, [1, 1, 7]) ∧ c.wellFormed = true
    ∧ ∀ d pl o, c = .setLine .portB d pl o ∨ c = .setAmp .portB d pl o ∨ c = .setPilot .portB d pl o →
        o = RaceOrder.seqFirst := by
  refine ⟨rfl, by decide, ?_⟩
  rintro d pl o (h | h | h) <;> cases h
  rfl

theorem witness_PayloadDividesIntoItsItems :
    ∀ it ∈ [((1 : Byte), List.replicate 255 (0 : Byte)), (2, [])], it.2.length ≤ 255 := by decide +kernel

theorem witness_StartingAndUnknownKindsAreAnswered :
    ((Instr.poll .portA 5 []).request = some (.portA, 5, 0x03, []) ∧ (Instr.poll .portA 5 []).wellFormed = true
      ∧ (0x03 : Byte) ≠ 0x01 ∧ loading.poweredUp = true ∧ loading.boot.phase = .starting
      ∧ (loading.port .portA).held = none ∧ (5 : Byte).toNat = loading.straps.unit)
    ∧ running.takes .portA 5 ∧ kindNamed 0x0B = false ∧ kindNamed 0x00 = false := by
  refine ⟨?_, takes_running, ?_⟩ <;> decide +kernel

/-- Each of the three ways a frame is ignored: another unit, a kind no broadcast carries, STARTING. -/
theorem witness_IgnoredFramesChangeNothing :
    (running.hears .portA = true ∧ (6 : Byte).toNat ≠ running.straps.unit ∧ (6 : Byte) ≠ 0x00
      ∧ ¬(0x40 ≤ (6 : Byte).toNat ∧ (6 : Byte).toNat ≤ 0x4F ∧ (6 : Byte) ∈ running.cfg.groups))
    ∧ ((0x40 : Byte).toNat ≠ running.straps.unit ∧ (0x40 : Byte) ∉ running.cfg.groups)
    ∧ ((0x00 : Byte).toNat ≠ running.straps.unit ∧ (0x45 : Byte) ∉ [(0x44 : Byte), 0x46, 0x47, 0x48, 0x4A])
    ∧ (loading.hears .portA = true ∧ (0x00 : Byte).toNat ≠ loading.straps.unit ∧ loading.boot.phase = .starting) := by
  decide +kernel

theorem witness_ReceiveOverrunIsDropped :
    (asked.poweredUp = true ∧ (asked.port .portA).held.map HeldFrame.sending = some false
      ∧ (5 : Byte).toNat = asked.straps.unit)
    ∧ (sending.poweredUp = true ∧ (sending.port .portA).held.map HeldFrame.sending = some true)
    ∧ asked.multicastAddress 0x00 = true ∧ multicastKind 0x4A = true ∧ asked.boot.phase = .running := by decide +kernel

theorem witness_DroppedFramesAreCounted :
    running.hears .portA = true ∧ sending.hears .portA = false ∧ (running.port .portA).inFrame = false
    ∧ ((out (exec (.frameStart .portA) running)).port .portA).inFrame = true
    ∧ (out (exec (.frameStart .portA) running)).poweredUp = true := by decide +kernel

theorem witness_RepliesAreSentAndReleased :
    (asked.port .portA).held.map HeldFrame.sending = some false
    ∧ (restarting.port .portA).held.any (fun h => h.restarts.isSome) = true := by decide +kernel

/-- Each refusal's payload, at the edge of its range. -/
theorem witness_BadPayloadIsRefused :
    running.takes .portA 5 ∧ (∀ b : Byte, b.toNat < 24 → [(24 : Byte)] ≠ [b]) ∧ (∀ b : Byte, b.toNat < 8 → [(8 : Byte)] ≠ [b])
    ∧ (∀ b : Byte, b.toNat < 4 → [(4 : Byte)] ≠ [b])
    ∧ parseSetLine [1, 1, 24, 2, 1, 1] = none ∧ parseSetAmp [1, 1, 8, 2, 1, 1] = none ∧ parseSetAmpWide [1, 1, 4] = none
    ∧ parseSetProfile [1, 1, 4, 2, 1, 0] = none ∧ parseSetLevels [1, 2, 15, 0] = none ∧ parseSetScan [1, 1, 24] = none
    ∧ parseSetPilot [] = none ∧ parseSetEarth [1, 1, 2] = none ∧ parseSetOutput [1, 1, 2, 2, 1, 0] = none
    ∧ parseSetGroups [1, 1, 0x50] = none ∧ parseLearn [1, 1, 24] = none ∧ parseAbortLearn [1, 1, 24] = none
    ∧ parseTestInject [1, 1, 0, 2, 1, 6, 3, 1, 1] = none ∧ parseClearLatch [1, 1, 0x28] = none
    ∧ parsePoll [1, 1, 8] = none ∧ parseClearMinmax [1, 1, 24] = none ∧ parseEmergency [] = none := by
  refine ⟨takes_running, ?_, ?_, ?_, ?_⟩
  · intro b h e; cases e; exact absurd h (by decide)
  · intro b h e; cases e; exact absurd h (by decide)
  · intro b h e; cases e; exact absurd h (by decide)
  · decide +kernel

/-- IDENTIFY with a payload in STARTING. -/
theorem witness_BadPayloadIsRefused_starting :
    loading.boot.phase = .starting ∧ loading.poweredUp = true ∧ (loading.port .portA).held = none
    ∧ (5 : Byte).toNat = loading.straps.unit := by decide +kernel

/-- A payload that does not divide; one whose items come in another order than the table's. -/
theorem witness_FieldsAreCheckedAndClamped :
    divideItems 1 [1] = none
    ∧ divideItems 7 [6, 2, 0, 0, 1, 1, 23] = some [(6, [0, 0]), (1, [23])]
    ∧ (parseSetLine [6, 2, 0, 0, 1, 1, 23]).map LineChange.zref = some (some (some 1))
    ∧ (parseSetLine [6, 2, 0, 0, 1, 1, 23]).map LineChange.clamped = some true := by decide +kernel

/-- A notice of HIGHZ on line 3, TEST set. -/
def highz3 : Notice :=
  { subject := .line 3, kind := .cond .highz, event := .active, cause := none, level := 4, round := 1, value := some 700
    transient := false, test := true }

/-- A full notice queue: HIGHZ of every line at level 4, then TEMP of every amplifier at level 2. -/
def fullQueue : NoticeQueue where
  entries := (allLines.map fun l => { highz3 with subject := .line l })
    ++ allAmps.map fun a => { highz3 with subject := .amp a, kind := .cond .temp, level := 2 }
  overflow := false

/-- A notice whose pair is queued; one whose pair is not, at an empty queue and at a full one, of which the oldest entry of
the lowest level is AMP 0's. The other premises of StepKeepsNoticeQueue are in witness_scheduling. -/
theorem witness_NoticeIsPlaced :
    let other : Notice := { highz3 with kind := .learn, level := 1 }
    fullQueue.entries = fullQueue.entries.take 3 ++ highz3 :: fullQueue.entries.drop 4
    ∧ (∀ x ∈ fullQueue.entries.take 3, ¬(x.subject = highz3.subject ∧ x.kind = highz3.kind))
    ∧ (∀ x ∈ fullQueue.entries, ¬(x.subject = other.subject ∧ x.kind = other.kind)) ∧ fullQueue.entries.length = 32
    ∧ fullQueue.entries
        = fullQueue.entries.take 24 ++ { highz3 with subject := .amp 0, kind := .cond .temp, level := 2 }
          :: fullQueue.entries.drop 25
    ∧ (∀ x ∈ fullQueue.entries, (2 : Level) ≤ x.level) ∧ ∀ x ∈ fullQueue.entries.take 24, x.level ≠ 2 := by
  decide +kernel

/-- R145, R146: an update in place of a full queue, a discarded notice, and one that displaces. -/
theorem test_place :
    (fullQueue.place { highz3 with event := .clear, test := false }).entries[3]?
      = some { highz3 with event := .clear, transient := true }
    ∧ fullQueue.place { highz3 with kind := .learn, level := 2 } = { fullQueue with overflow := true }
    ∧ (fullQueue.place { highz3 with kind := .learn, level := 3 }).entries.length = 32 := by decide +kernel

theorem witness_ImageLoadsAsSaved : Settings.default.InRange ∧ Memory.wf [(2047, 0x00)] = true :=
  ⟨inRange_default, by decide⟩

/-- A frozen view, and none. -/
theorem witness_RecordReadsAreServed :
    running.takes .portA 5 ∧ frozen.takes .portA 5 ∧ frozen.link.frozen.isSome = true ∧ running.link.frozen = none := by
  unfold State.takes; decide +kernel

/-- IDENTIFY in STARTING; an unhealthy output in RUNNING. -/
theorem witness_LiveReadsAreServed :
    (loading.poweredUp = true ∧ (loading.port .portA).held = none ∧ (5 : Byte).toNat = loading.straps.unit)
    ∧ failed.takes .portA 5 ∧ (failed.fout.get .fltB).unhealthy = true := by
  unfold State.takes; decide +kernel

theorem witness_StatusReportsAndClears : running.takes .portA 5 := takes_running

/-- A refused minimum; an entry at the highest level with nothing older; no entry; STARTING; broadcast. -/
theorem witness_PollDeliversTheBestEntry :
    parsePoll [1, 1, 8] = none ∧ parsePoll [1, 1, 7] = some 7
    ∧ (∀ n ∈ failed.nq.entries.head?, failed.nq.entries = [] ++ n :: failed.nq.entries.tail ∧ (7 : Level) ≤ n.level
        ∧ ∀ e ∈ failed.nq.entries, (7 : Level) ≤ e.level → e.level ≤ n.level)
    ∧ failed.nq.entries.head?.isSome = true
    ∧ (∀ e ∈ (out (exec (.poll .portB 5 []) running)).nq.entries, ¬(0 : Level) ≤ e.level)
    ∧ loading.boot.phase = .starting ∧ (loading.port .portA).held = none := by decide +kernel

/-- An accepted setting request, and a refused one, from counter 255. -/
theorem witness_ChangeCounterCountsAcceptedSettings :
    let s := { running with link := { running.link with changeCounter := 255 } }
    (Instr.setGroups .portA 5 [1, 0]).isSetting = true
    ∧ (Instr.setGroups .portA 5 [1, 0]).request = some (.portA, 5, 0x2A, [1, 0])
    ∧ ((out (exec (.setGroups .portA 5 [1, 0]) s)).port .portA).held.map (fun h => h.reply.status) = some .done
    ∧ (out (exec (.setGroups .portA 5 [1, 0]) s)).link.changeCounter = 1
    ∧ ((out (exec (.setGroups .portA 5 []) s)).port .portA).held.map (fun h => h.reply.status) = some .refusedArg := by
  decide +kernel

/-- A zref for a learning line; a line that does not learn; a learning line without the zref field. -/
theorem witness_SetLineWritesTheEntry :
    learning.takes .portA 5
    ∧ parseSetLine [1, 1, 0, 6, 2, 1, 0]
        = some { line := 0, state := none, amp := none, zone := none, profile := none, zref := some (some 256), clamped := false }
    ∧ learning.learn[(0 : LineId)].isSome = true ∧ learning.learn[(1 : LineId)] = none
    ∧ (parseSetLine [1, 1, 1, 6, 0]).map LineChange.zref = some (some none)
    ∧ (parseSetLine [1, 1, 0, 5, 1, 3]).map LineChange.zref = some none := by
  unfold State.takes; decide +kernel

theorem witness_LineSetOffHoldsNothing :
    running.takes .portA 5
    ∧ parseSetLine [1, 1, 0, 2, 1, 0]
        = some { line := 0, state := some .off, amp := none, zone := none, profile := none, zref := none, clamped := false }
    ∧ (running.line 0).state ≠ .off ∧ running.learn[(0 : LineId)] = none := by
  unfold State.takes; decide +kernel

theorem witness_HeldLineReleasedIsAnnounced :
    heldLine.takes .portA 5
    ∧ parseSetLine [1, 1, 7, 2, 1, 1]
        = some { line := 7, state := some .watching, amp := none, zone := none, profile := none, zref := none
                 clamped := false }
    ∧ (heldLine.line 7).state = .held ∧ heldLine.lineInEmergency 7 = false
    ∧ heldLine.activeConds (.line 7) = [.line 7 .highz] := by
  unfold State.takes; decide +kernel

theorem witness_SetAmpWritesTheEntry :
    running.takes .portA 5
    ∧ parseSetAmp [1, 1, 7, 2, 1, 0] = some { amp := 7, state := some .off, polarity := none }
    ∧ parseSetAmp [1, 1, 0, 3, 1, 1] = some { amp := 0, state := none, polarity := some .normallyClosed } := by
  unfold State.takes; decide +kernel

/-- A rule that changes, and one that does not. -/
theorem witness_SetAmpWideReevaluates :
    running.takes .portA 5
    ∧ parseSetAmpWide [1, 1, 0]
        = some { rule := some .r1oo1, overload := none, vmin := none, freqTol := none, clamped := false }
    ∧ running.cfg.wide.rule ≠ .r1oo1 ∧ (parseSetAmpWide [4, 1, 1]).map AmpWideChange.rule = some none := by
  unfold State.takes; decide +kernel

theorem witness_SetProfileReevaluates :
    running.takes .portA 5 ∧ (parseSetProfile [1, 1, 0, 2, 1, 3]).map ProfileChange.impRule = some (some .r7oo8)
    ∧ (running.lineProfile 0).impRule ≠ .r7oo8 := by
  unfold State.takes; decide +kernel

theorem witness_SetLevelsAndSetGroupsWrite :
    running.takes .portA 5
    ∧ parseSetLevels [1, 2, 14, 8] = some { pairs := [(.config, 7)], clamped := true }
    ∧ (List.replicate 198 (0x40 : Byte)).length ≤ 198 := by
  unfold State.takes; decide +kernel

/-- A ring; the default-ring mark; a setting alone. -/
theorem witness_SetScanPutsTheRing :
    running.takes .portA 5 ∧ (parseSetScan [1, 1, 0x27]).map ScanChange.ring = some (some [.amp 7])
    ∧ (parseSetScan [2, 0]).map ScanChange.defaultRing = some true
    ∧ (parseSetScan [5, 2, 0, 99]).map ScanChange.period = some (some 100) := by
  unfold State.takes; decide +kernel

/-- The D in force; another D with a measurement in flight; another D without one. -/
theorem witness_SetPilotAbandonsTheMeasurement :
    running.takes .portA 5 ∧ max 1100 (min 1400 (0x04 * 256 + 0xB0)) = running.cfg.pilotD
    ∧ max 1100 (min 1400 (0x05 * 256 + 0x79)) ≠ running.cfg.pilotD ∧ running.lconv.isSome = true
    ∧ running.seq.state = .granted ∧ waiting.takes .portA 5 ∧ waiting.lconv = none := by
  unfold State.takes; decide +kernel

/-- Supervision turned off, and turned on with the first line on the walk not OFF. -/
theorem witness_SetEarthTurnsTheWalk :
    let off := { running with
      cfg := { running.cfg with earth := { running.cfg.earth with supervision := false } }, ebrg := Ebrg.cleared }
    running.takes .portA 5 ∧ (parseSetEarth [1, 1, 1]).map EarthChange.supervision = some (some false)
    ∧ running.cfg.earth.supervision = true ∧ off.takes .portA 5
    ∧ (parseSetEarth [1, 1, 0]).map EarthChange.supervision = some (some true)
    ∧ (∀ j : LineId, j < 0 → (off.line (off.ebrg.walk + j)).state = .off)
    ∧ (off.line (off.ebrg.walk + 0)).state ≠ .off := by
  unfold State.takes; decide +kernel

/-- The mode to OFF; the mode from OFF; the short interval with three rounds counted; a RUNNING output. -/
theorem witness_SetOutputActsOnTheOutput :
    running.takes .portA 5 ∧ (parseSetOutput [1, 1, 0, 2, 1, 0]).map OutputChange.mode = some (some .off)
    ∧ running.cfg.outA.mode ≠ .off ∧ (parseSetOutput [1, 1, 1, 6, 1, 1]).map OutputChange.short = some (some true)
    ∧ running.cfg.outB.short = false ∧ pulsing.takes .portA 5 ∧ (pulsing.fout.get .fltA).state = .running := by
  unfold State.takes; decide +kernel

/-- An OFF line, a learning line and another; and an ABORT-LEARN with and without a record. -/
theorem witness_LearnBeginsAndAborts :
    learning.takes .portA 5 ∧ parseLearn [1, 1, 23, 2, 1, 3] = some (23, 4, true)
    ∧ (learning.line 23).state ≠ .off ∧ learning.learn[(23 : LineId)] = none
    ∧ parseLearn [1, 1, 0] = some (0, 16, false) ∧ learning.learn[(0 : LineId)].isSome = true
    ∧ parseAbortLearn [1, 1, 0] = some 0 ∧ parseAbortLearn [1, 1, 23] = some 23
    ∧ ((out (exec (.setLine .portA 5 [1, 1, 23, 2, 1, 0] .earthFirst) running)).line 23).state = .off := by
  unfold State.takes; decide +kernel

theorem witness_TestInjectArmsOneCondition :
    running.takes .portA 5
    ∧ parseTestInject [1, 1, 0x27, 2, 1, 11, 3, 1, 255]
        = some { subject := .amp 7, cond := .amp 7 .supply, count := 255 }
    ∧ running.isOff (.amp 7) = false
    ∧ (out (exec (.setAmp .portA 5 [1, 1, 7, 2, 1, 0] .earthFirst) running)).isOff (.amp 7) = true := by
  unfold State.takes; decide +kernel

theorem witness_ClearLatchClearsQuietLatches :
    running.takes .portA 5 ∧ running.takesMulti .portB 0 ∧ parseClearLatch [1, 1, 0x30] = some [.dev]
    ∧ parseClearLatch [] = some allSubjects := ⟨takes_running, takesMulti_running, by decide +kernel⟩

theorem witness_ClearMinmaxClearsFigures :
    running.takes .portA 5 ∧ running.takesMulti .portB 0 ∧ parseClearMinmax [1, 1, 23] = some [23]
    ∧ parseClearMinmax [1, 1, 24] = none ∧ loading.boot.phase = .starting ∧ (loading.port .portA).held = none :=
  ⟨takes_running, takesMulti_running, by decide +kernel⟩

theorem witness_EmergencyIsDeclared :
    heldLine.takes .portA 5 ∧ heldLine.takesMulti .portB 0 ∧ parseEmergency [1, 2, 0x80, 0x08] = some 0x8008
    ∧ heldLine.evac.since = some 0 ∧ running.evac.pinLow = false := by
  unfold State.takes State.takesMulti; decide +kernel

theorem witness_FrozenViewIsTakenAndReleased :
    running.takes .portA 5 ∧ running.takesMulti .portB 0 ∧ frozen.link.frozen.isSome = true
    ∧ (out (exec .softRestart { frozen with boot := { frozen.boot with restartDue := some frozen.restartCopy } })).link.frozen
        ≠ frozen.link.frozen := ⟨takes_running, takesMulti_running, by decide +kernel⟩

/-- A save in progress; a RESTART awaiting its soft restart on the other port; neither. -/
theorem witness_SaveImageCopiesTheSettings :
    writing.takes .portA 5 ∧ writing.boot.save = .writing ∧ restarting.takes .portB 5
    ∧ (restarting.port .portA).held.any (fun h => h.restarts.isSome) = true ∧ running.boot.save ≠ .writing
    ∧ replied.boot.restartDue.isSome = true ∧ replied.takes .portA 5 ∧ running.boot.restartDue = none ∧ (running.port .portA).held = none ∧ (running.port .portB).held = none := by
  unfold State.takes; decide +kernel

/-- A write that ends well, with CONFIG ACTIVE, and one that does not. -/
theorem witness_ImageWriteEnds :
    let s := { failed with boot := { failed.boot with save := .writing, saveCopy := some failed.cfg } }
    s.boot.save = .writing ∧ s.boot.saveCopy = some failed.cfg ∧ Memory.wf s.memory = true
    ∧ (s.cond (.dev .config)).state = .active := by decide +kernel

/-- A RESTART taken while nothing writes and while a save writes, unit-addressed and broadcast; a soft restart that is
due, with settings that have changed since the acceptance, and none. -/
theorem witness_RestartBeginsASoftRestart :
    running.takes .portA 5 ∧ writing.takes .portA 5 ∧ running.takesMulti .portB 0 ∧ writing.takesMulti .portB 0
    ∧ running.boot.save ≠ .writing ∧ writing.boot.save = .writing
    ∧ replied.boot.restartDue = some running.restartCopy ∧ replied.cfg ≠ running.cfg ∧ running.boot.restartDue = none := by
  unfold State.takes State.takesMulti; decide +kernel

/-- A powered part, one in a reset, and one with a write in progress. -/
theorem witness_HardResetStopsThePart :
    running.power = .released .power ∧ State.reset.power = .inReset .power ∧ writing.boot.save = .writing
    ∧ writing.boot.saveCopy.isSome = true ∧ Memory.wf writing.memory = true := by decide +kernel

theorem witness_StartUpTakesItsSettings :
    State.reset.power = .inReset .power ∧ loading.power = .released .power ∧ loading.boot.image = .loading := by
  decide +kernel

/-- A settle block, a sample block before the last, and a running period counter. -/
theorem witness_BlocksAccumulate :
    let m := lastBlock (.amp 2) 0 0 (.running 0)
    let s := { running with lconv := some { m with sampled := 6 } }
    running.lconv.any (fun m => decide (m.settled < m.settle)) = true
    ∧ s.lconv.any (fun m => decide (m.settle ≤ m.settled ∧ m.sampled + 1 < m.sample)) = true
    ∧ m.counter = .running 0 ∧ 38399 < 32 * s.cfg.pilotD := by decide +kernel

/-- A vote that moves a condition into ACTIVE, and one that does not. -/
theorem witness_VoteIsEntered :
    let s := running.setCond (.dev .ref) { Cond.cleared with window := [.bad], state := .pending }
    (∀ a, CondId.dev .ref ≠ .amp a .nopilot) ∧ (s.voted (.dev .ref) .bad).state = .active
    ∧ (running.voted (.dev .ref) .bad).state = .pending ∧ (running.cond (.dev .ref)).state = .clear := by
  refine ⟨nofun, ?_⟩
  decide +kernel

theorem witness_LineMeasurementCompletes :
    let m := lastBlock (.line 5) 40 1800 .idle
    (lineSlot 40 1800).lconv = some m ∧ m.subject = .line 5 ∧ m.settle ≤ m.settled ∧ m.sample ≤ m.sampled + 1
    ∧ ReferenceGated (lineSlot 40 1800) := by
  refine ⟨rfl, rfl, by decide, by decide, ?_⟩
  exact
    { empty := fun l _ k _ => by rw [show (lineSlot 40 1800).cond _ = _ from cond_running _]; exact ⟨rfl, rfl⟩
      learning_not_off := by decide +kernel
      starting_none := fun h => absurd h (by decide +kernel) }

theorem witness_AmplifierAndReferenceComplete :
    let m := lastBlock (.amp 2) 1000 1000 (.done 19297)
    (ampSlot 19297).lconv = some m ∧ m.subject = .amp 2 ∧ m.settle ≤ m.settled ∧ m.sample ≤ m.sampled + 1
    ∧ refSlot.lconv = some (lastBlock .ref 2048 2048 .idle) := ⟨rfl, rfl, by decide, by decide, rfl⟩

/-- A record one short of its target, and one at its last attempt. -/
theorem witness_LearningCollectsAndEnds :
    let r : LearnRec := { target := 4, collected := 3, sumZ := 1200, minZ := some 400, maxZ := some 400, attempts := 11 }
    ReferenceGated (running.setLearn 5 (some r)) ∧ (running.setLearn 5 (some r)).learn[(5 : LineId)] = some r := by
  intro r
  refine ⟨?_, by decide +kernel⟩
  exact
    { empty := fun l _ k _ => by
        rw [show (running.setLearn 5 (some r)).cond _ = _ from cond_running _]; exact ⟨rfl, rfl⟩
      learning_not_off := by decide +kernel
      starting_none := fun h => absurd h (by decide +kernel) }

/-- A confirm entry behind one that is held; a ring entry behind one that is held, with no credit left. -/
theorem witness_GrantsAreChosen :
    let s := { running with seq := { running.seq with confirm := [.line 0, .line 4], pointer := 1 } }
    let q := { running with seq := { running.seq with credit := 0, pointer := 1 } }
    s.seq.state = .granted ∧ s.seq.credit ≠ 0 ∧ s.seq.confirm = [.line 0] ++ .line 4 :: []
    ∧ s.entryHeld (.line 0) = true ∧ s.isOff (.line 4) = false ∧ s.entryHeld (.line 4) = false
    ∧ q.seq.credit = 0 ∧ q.cfg.ring.drop q.seq.pointer = [.line 0] ++ .line 1 :: q.cfg.ring.drop 3
    ∧ q.entryHeld (.line 0) = true ∧ q.isOff (.line 1) = false ∧ q.entryHeld (.line 1) = false := by decide +kernel

/-- A period wait; a ring of held lines alone, in a round that is late and in one that is not. -/
theorem witness_RoundsEndAndStart :
    let s := { running with cfg := { running.cfg with ring := [.line 0] } }
    waiting.seq.state = .periodWait ∧ s.seq.state = .granted
    ∧ (∀ x ∈ s.seq.confirm, s.isOff x.subject = true ∨ s.entryHeld x = true)
    ∧ (∀ x ∈ s.cfg.ring.drop s.seq.pointer, s.isOff x.subject = true ∨ s.entryHeld x = true)
    ∧ ¬s.seq.periodInUse * 24576 ≤ s.clock - s.seq.roundStart
    ∧ s.seq.periodInUse * 24576 ≤ (s.waitUntil 24576000).clock - s.seq.roundStart := by decide +kernel

/-- A soak under way, with a choice to make after it. -/
theorem witness_SoakIsJudged :
    running.ebrg.mode
      = .soaking { line := 0, soak := .ms200, ne := 8, biasOn := 0, blocks := 0, sumL := 0, saturated := false
                   blockStart := 0 }
    ∧ running.cfg.earth.supervision = true ∧ running.boot.phase = .running
    ∧ (running.line (running.ebrg.walk + 0)).state ≠ .off := by decide +kernel

/-- A leakage block before the last, and the last one. -/
theorem witness_LeakageIsMeasured :
    let t : EarthTest := { line := 3, soak := .ms200, ne := 8, biasOn := 0, blocks := 7, sumL := 0, saturated := false
                           blockStart := 0 }
    (leaking 0).ebrg.mode = .measuring t ∧ t.ne ≤ t.blocks + 1 ∧ ({ t with blocks := 6 } : EarthTest).blocks + 1 < t.ne :=
  ⟨rfl, by decide, by decide⟩

theorem witness_PulsePhasesAlternate :
    (pulsing.fout.get .fltA).pulse = some { asserted := false, since := 100 }
    ∧ (pulsing.fout.get .fltA).state = .running ∧ (pulsing.fout.get .fltA).unhealthy = false
    ∧ (pulsing.cfg.out .fltA).mode = .pulsed := by decide +kernel

end Sys2Proof.Tests
end

section
/-! SUPPORT. What CEVAL can write, said once: every operation on condition records, from a single move to a vote or an
announcement, leaves all of the state but the condition records, NQ, FOUT, the first-count marks and the confirm queue. -/

namespace Sys2Proof.Machine.Converter

/-! ## The frame of CEVAL -/

/-- From `s` to `u` nothing has been written but condition records, NQ, FOUT, first-count marks and the confirm queue. -/
structure Judging (s u : State) : Prop where
  eq : u = { s with
    recs := { s.recs with
      lineConds := u.recs.lineConds, ampConds := u.recs.ampConds, devConds := u.recs.devConds }
    nq := u.nq
    fout := u.fout
    firstCount := u.firstCount
    seq := { s.seq with confirm := u.seq.confirm } }

theorem Judging.refl (s : State) : Judging s s := ⟨rfl⟩

theorem Judging.trans {s u v : State} (h : Judging s u) (k : Judging u v) : Judging s v :=
  ⟨k.eq.trans (by rw [h.eq])⟩

/-- What every act of a fold keeps to, the fold keeps to. -/
theorem Judging.foldl {α : Type} {f : State → α → State} (h : ∀ u x, Judging u (f u x)) (xs : List α) (s : State) :
    Judging s (xs.foldl f s) := by
  induction xs generalizing s with
  | nil => exact .refl s
  | cons x xs ih => exact (h s x).trans (ih (f s x))

theorem Judging.ite {s u v : State} {c : Prop} [Decidable c] (h : Judging s u) (k : Judging s v) :
    Judging s (if c then u else v) := by
  split
  · exact h
  · exact k

section
variable {s u : State}

theorem Judging.clock (h : Judging s u) : u.clock = s.clock := by rw [h.eq]
theorem Judging.power (h : Judging s u) : u.power = s.power := by rw [h.eq]
theorem Judging.boot (h : Judging s u) : u.boot = s.boot := by rw [h.eq]
theorem Judging.cfg (h : Judging s u) : u.cfg = s.cfg := by rw [h.eq]
theorem Judging.zones (h : Judging s u) : u.zones = s.zones := by rw [h.eq]
theorem Judging.evac (h : Judging s u) : u.evac = s.evac := by rw [h.eq]
theorem Judging.lconv (h : Judging s u) : u.lconv = s.lconv := by rw [h.eq]
theorem Judging.ebrg (h : Judging s u) : u.ebrg = s.ebrg := by rw [h.eq]
theorem Judging.learn (h : Judging s u) : u.learn = s.learn := by rw [h.eq]
theorem Judging.link (h : Judging s u) : u.link = s.link := by rw [h.eq]
theorem Judging.seq (h : Judging s u) : u.seq = { s.seq with confirm := u.seq.confirm } := by rw [h.eq]
theorem Judging.seqState (h : Judging s u) : u.seq.state = s.seq.state := by rw [h.eq]
theorem Judging.round (h : Judging s u) : u.seq.round = s.seq.round := by rw [h.eq]

end

theorem judging_setCond (s : State) (id : CondId) (x : Cond) : Judging s (s.setCond id x) := by
  cases id <;> exact ⟨rfl⟩

theorem judging_notify (s : State) (x : Subject) (k : NoticeKind) (ev : Event) (cause : Option Cause)
    (value : Option Nat) (test : Bool) : Judging s (s.notify x k ev cause value test) := ⟨rfl⟩

theorem judging_reevalOutputs (s : State) : Judging s s.reevalOutputs := ⟨rfl⟩

theorem judging_setFirstCount (s : State) (a : AmpId) (mark : Bool) : Judging s (s.setFirstCount a mark) := ⟨rfl⟩

theorem judging_dropConfirm (s : State) (e : RingEntry) : Judging s (s.dropConfirm e) := ⟨rfl⟩

theorem judging_dropNotices (s : State) (x : Subject) : Judging s (s.dropNotices x) := ⟨rfl⟩

theorem judging_notifyCond (s : State) (id : CondId) (ev : Event) (cause : Option Cause) (value : Option Nat)
    (test : Bool) : Judging s (s.notifyCond id ev cause value test) :=
  .ite (judging_notify ..) (.refl s)

theorem judging_moveCond (s : State) (id : CondId) (new : CondState) (cause : Option Cause) (value : Option Nat)
    (test : Bool) : Judging s (s.moveCond id new cause value test) := by
  have hset := judging_setCond s id ((s.cond id).move new s.seq.round)
  refine .ite (.refl s) (.ite ?_ (.ite ?_ hset))
  all_goals exact hset.trans ((judging_notifyCond ..).trans (judging_reevalOutputs _))

theorem judging_emptyCond (s : State) (id : CondId) (cause : Option Cause) : Judging s (s.emptyCond id cause) :=
  (judging_setCond ..).trans (judging_moveCond ..)

theorem judging_attributeLine (s : State) (l : LineId) : Judging s (s.attributeLine l) :=
  .ite (.refl s) (judging_emptyCond ..)

theorem judging_attributeFed (s : State) (a : AmpId) : Judging s (s.attributeFed a) :=
  .foldl (fun u l => .ite (judging_attributeLine u l) (.refl u)) _ _

theorem judging_afterMove (s : State) (id : CondId) (old new : CondState) : Judging s (s.afterMove id old new) := by
  cases id with
  | line => exact .refl s
  | dev => exact .refl s
  | amp a k =>
    cases k with
    | nopilot => exact .ite (judging_attributeFed s a) (.ite (judging_setFirstCount s a true) (.refl s))
    | overload => exact .refl s
    | freq => exact .refl s
    | temp => exact .refl s
    | supply => exact .refl s

theorem judging_evaluate (s : State) (id : CondId) (value : Option Nat) (test : Bool) :
    Judging s (s.evaluate id value test) :=
  (judging_moveCond ..).trans (judging_afterMove ..)

theorem judging_push (s : State) (x : Subject) : Judging s (s.push x) := by
  rw [s.push_spec x]
  exact ⟨rfl⟩

theorem judging_vote (s : State) (id : CondId) (judged : Vote) (value : Option Nat) :
    Judging s (s.vote id judged value) := by
  have hmove : Judging s ((s.setCond id ((s.cond id).withVote judged)).evaluate id value (s.cond id).injection.isSome) :=
    (judging_setCond ..).trans (judging_evaluate ..)
  exact .ite (hmove.trans (judging_push ..)) hmove

theorem judging_reevaluate (s : State) (id : CondId) : Judging s (s.reevaluate id) := by
  unfold State.reevaluate
  split
  · exact .ite (judging_setCond ..) (judging_evaluate ..)
  · exact judging_evaluate ..

theorem judging_reevaluateAll (s : State) (ids : List CondId) : Judging s (s.reevaluateAll ids) :=
  .foldl (fun u id => .ite (.refl u) (judging_reevaluate u id)) _ _

theorem judging_emptyRef (s : State) (l : LineId) : Judging s (s.emptyRef l) :=
  (judging_emptyCond ..).trans (judging_emptyCond ..)

theorem judging_announceActive (s : State) (x : Subject) : Judging s (s.announceActive x) :=
  .foldl (fun u _ => .ite (judging_notify ..) (.refl u)) _ _

theorem judging_announceEntries (s before : State) : Judging s (s.announceEntries before) :=
  .foldl (fun u x => .ite (judging_announceActive u x) (.refl u)) _ _

theorem judging_turnOffConds (s : State) (x : Subject) : Judging s (s.turnOffConds x) :=
  .foldl (fun _ _ => judging_setCond ..) _ _

theorem judging_clearLatches (s : State) (ids : List CondId) : Judging s (ids.foldl State.clearLatch s) :=
  .foldl (fun u _ => .ite (.refl u) (judging_setCond ..)) _ _

theorem judging_dropInjections (s : State) (x : Subject) : Judging s (s.dropInjections x) :=
  .foldl (fun _ _ => judging_setCond ..) _ _

end Sys2Proof.Machine.Converter
end

section
/-! SUPPORT. LCONV, SEQ and EBRG: what a grant decision can end in, what EBRG's start and choice can end in, and the
agreement of the three engines with the device phase in four parts, each engine's act tied to the parts it brings. -/

namespace Sys2Proof.Machine.Converter

/-! ## The outcome of a grant decision (R62, R63, R69, R70) -/

/-- What SEQ may grant: REF, a line that is neither OFF nor held under earth test, an amplifier that is not OFF. -/
def Grantable (s : State) : MeasSubject → Prop
  | .line l => (s.line l).state ≠ .off ∧ s.lineHeld l = false
  | .amp a => (s.amp a).state ≠ .off
  | .ref => True

/-- SEQ in GRANTED has taken a grant decision from `s` to `v`: a fresh grant, or the end of the round in PERIOD-WAIT; only
LCONV, SEQ, the outputs' start counts and the ring can have moved. -/
structure Decided (s v : State) : Prop where
  frame : v = { s with
    lconv := v.lconv, seq := v.seq, fout := v.fout, cfg := { s.cfg with ring := v.cfg.ring } }
  outcome : (∃ x, v.lconv = some (Meas.fresh x s.cfg.scan s.clock) ∧ v.seq.state = .granted ∧ Grantable s x)
    ∨ (v.lconv = s.lconv ∧ v.seq.state = .periodWait)

theorem isOff_line (s : State) (l : LineId) : s.isOff (.line l) = decide ((s.line l).state = .off) := by
  simp [State.isOff, State.subjState]

theorem isOff_amp (s : State) (a : AmpId) : s.isOff (.amp a) = decide ((s.amp a).state = .off) := by
  simp [State.isOff, State.subjState]

theorem grantable_meas (s : State) (e : RingEntry) (hoff : s.isOff e.subject = false) (hheld : s.entryHeld e = false) :
    Grantable s e.meas := by
  cases e with
  | line l => exact ⟨by simpa [RingEntry.subject, isOff_line] using hoff, hheld⟩
  | amp a =>
    rw [RingEntry.subject, isOff_amp] at hoff
    exact of_decide_eq_false hoff

theorem endRound_decided (s : State) : Decided s s.endRound := by
  unfold State.endRound
  split
  · exact ⟨rfl, .inl ⟨.ref, rfl, rfl, trivial⟩⟩
  · exact ⟨rfl, .inr ⟨rfl, rfl⟩⟩

/-- A decision that goes on from an entry passed over is a decision. -/
theorem Decided.after_seq {s v : State} {q : Seq} (h : Decided { s with seq := q } v) : Decided s v :=
  ⟨h.frame, h.outcome⟩

theorem walkRing_decided (es : List RingEntry) (s : State) (hg : s.seq.state = .granted) :
    Decided s (State.walkRing es s) := by
  induction es generalizing s with
  | nil => exact endRound_decided s
  | cons e es ih =>
    unfold State.walkRing
    split
    · exact (ih { s with seq := s.seq.skip .passed } hg).after_seq
    · split
      · exact (ih { s with seq := s.seq.skip .skipped } hg).after_seq
      · next hoff hheld =>
        exact ⟨rfl, .inl ⟨e.meas, rfl, hg, grantable_meas s e (by simpa using hoff) (by simpa using hheld)⟩⟩

theorem confirmChoice_eligible (s : State) (e : RingEntry) (h : s.confirmChoice = some e) : s.eligible e = true := by
  unfold State.confirmChoice at h
  split at h
  · cases h
  · exact List.find?_some h

theorem grantDecision_decided (s : State) (hg : s.seq.state = .granted) : Decided s s.grantDecision := by
  unfold State.grantDecision
  rw [if_pos hg]
  split
  · next e he =>
    have hel := confirmChoice_eligible s e he
    simp only [State.eligible, Bool.and_eq_true, Bool.not_eq_true'] at hel
    exact ⟨rfl, .inl ⟨e.meas, rfl, hg, grantable_meas s e hel.1 hel.2⟩⟩
  · exact walkRing_decided _ s hg

theorem grantDecision_ungranted (s : State) (hg : s.seq.state ≠ .granted) : s.grantDecision = s := if_neg hg

/-- Whatever SEQ's state, a grant decision moves only LCONV, SEQ, the outputs' start counts and the ring. -/
theorem grantDecision_frame (s : State) :
    s.grantDecision = { s with
      lconv := s.grantDecision.lconv, seq := s.grantDecision.seq, fout := s.grantDecision.fout
      cfg := { s.cfg with ring := s.grantDecision.cfg.ring } } := by
  by_cases hg : s.seq.state = .granted
  · exact (grantDecision_decided s hg).frame
  · rw [grantDecision_ungranted s hg]

/-! ## EBRG's start, renewed start and choice (R80, R81, R82) -/

/-- A start of a test moves EBRG alone; it waits where LCONV measures the line, and otherwise holds the line. -/
theorem startTest_cases (s : State) (l : LineId) :
    ∃ m, s.startTest l = s.setMode m ∧ m.chosen = some l
      ∧ (m = .waiting l ∧ s.lineInFlight = some l ∨ m.heldLine = some l ∧ s.lineInFlight ≠ some l) := by
  unfold State.startTest
  split
  · next h => exact ⟨_, rfl, rfl, .inl ⟨rfl, h⟩⟩
  · next h => exact ⟨_, rfl, rfl, .inr ⟨rfl, h⟩⟩

/-- EBRG's start and its waiting agree with LCONV (R81, R82): the held line is not measured, the awaited one is. -/
structure BridgeFits (s : State) : Prop where
  never_meet : ∀ l, s.lineHeld l = true → s.lineInFlight ≠ some l
  waiting_measured : ∀ l, s.ebrg.mode = .waiting l → s.lineInFlight = some l

theorem lineHeld_iff (s : State) (l : LineId) : s.lineHeld l = true ↔ s.ebrg.mode.heldLine = some l := by
  simp [State.lineHeld]

theorem bridgeFits_idle (s : State) (h : s.ebrg.mode = .idle) : BridgeFits s :=
  ⟨fun l hl => by simp [State.lineHeld, h, EbrgMode.heldLine] at hl, fun l hl => by simp [h] at hl⟩

theorem bridgeFits_startTest (s : State) (l : LineId) : BridgeFits (s.startTest l) := by
  obtain ⟨m, heq, -, ⟨rfl, hfly⟩ | ⟨hheld, hfly⟩⟩ := startTest_cases s l
  · rw [heq]
    refine ⟨fun j hj => ?_, fun j hj => ?_⟩
    · simp [State.lineHeld, State.setMode, EbrgMode.heldLine] at hj
    · cases hj
      exact hfly
  · rw [heq]
    refine ⟨fun j hj => ?_, fun j hj => ?_⟩
    · have hm : m.heldLine = some j := (lineHeld_iff _ j).mp hj
      cases hheld.symm.trans hm
      exact hfly
    · rw [show m = .waiting j from hj] at hheld
      cases hheld

/-- EBRG in agreement with the settings and the device phase (R78, R80, R88, R89). -/
structure BridgeOk (s : State) : Prop where
  starting_idle : s.boot.phase = .starting → s.ebrg.mode = .idle
  chosen_not_off : ∀ l, s.ebrg.mode.chosen = some l → (s.line l).state ≠ .off
  supervised : s.ebrg.mode.chosen.isSome = true → s.cfg.earth.supervision = true

theorem bridgeOk_idle (s : State) (h : s.ebrg.mode = .idle) : BridgeOk s :=
  ⟨fun _ => h, fun l hl => by simp [h, EbrgMode.chosen] at hl, fun hl => by simp [h, EbrgMode.chosen] at hl⟩

theorem nextOnWalk_not_off (s : State) (l : LineId) (h : s.nextOnWalk = some l) : (s.line l).state ≠ .off := by
  have hp := List.find?_some h
  simpa [isOff_line] using hp

theorem choose_frame (s : State) : s.choose = { s with ebrg := s.choose.ebrg } := by
  unfold State.choose State.startTest
  split
  · split
    · split <;> rfl
    · rfl
  · rfl

/-- After any choice EBRG agrees with LCONV, the settings and the phase. -/
theorem choose_bridge (s : State) : BridgeOk s.choose ∧ BridgeFits s.choose := by
  have hidle : BridgeOk (s.setMode .idle) ∧ BridgeFits (s.setMode .idle) := ⟨bridgeOk_idle _ rfl, bridgeFits_idle _ rfl⟩
  unfold State.choose
  split
  · next hon =>
    obtain ⟨hsup, hrun⟩ := hon
    split
    · next l hl =>
      refine ⟨?_, bridgeFits_startTest _ l⟩
      obtain ⟨m, heq, hch, -⟩ := startTest_cases { s with ebrg := { s.ebrg with walk := l + 1 } } l
      rw [heq]
      refine ⟨fun hst => ?_, fun j hj => ?_, fun _ => hsup⟩
      · cases hrun.symm.trans hst
      · cases hch.symm.trans hj
        exact nextOnWalk_not_off s l hl
    · exact hidle
  · exact hidle

theorem earthRetry_of_waiting (s : State) (l : LineId) (h : s.ebrg.mode = .waiting l) : s.earthRetry = s.startTest l := by
  unfold State.earthRetry
  rw [h]

theorem earthRetry_of_not_waiting (s : State) (h : ∀ l, s.ebrg.mode ≠ .waiting l) : s.earthRetry = s := by
  unfold State.earthRetry
  split
  · next l hl => exact absurd hl (h l)
  all_goals rfl

/-- A renewed start moves EBRG alone and keeps its line. -/
theorem earthRetry_cases (s : State) : ∃ m, s.earthRetry = s.setMode m ∧ m.chosen = s.ebrg.mode.chosen := by
  by_cases h : ∃ l, s.ebrg.mode = .waiting l
  · obtain ⟨l, hl⟩ := h
    obtain ⟨m, heq, hch, -⟩ := startTest_cases s l
    exact ⟨m, (earthRetry_of_waiting s l hl).trans heq, hch.trans (by rw [hl]; rfl)⟩
  · exact ⟨s.ebrg.mode, earthRetry_of_not_waiting s (not_exists.mp h), rfl⟩

theorem earthRetry_fits (s : State) (h : ∀ l, s.lineHeld l = true → s.lineInFlight ≠ some l) :
    BridgeFits s.earthRetry := by
  by_cases hw : ∃ l, s.ebrg.mode = .waiting l
  · obtain ⟨l, hl⟩ := hw
    rw [earthRetry_of_waiting s l hl]
    exact bridgeFits_startTest s l
  · rw [earthRetry_of_not_waiting s (not_exists.mp hw)]
    exact ⟨h, fun l hl => absurd ⟨l, hl⟩ hw⟩

theorem BridgeOk.earthRetry {s : State} (h : BridgeOk s) : BridgeOk s.earthRetry := by
  obtain ⟨m, heq, hch⟩ := earthRetry_cases s
  rw [heq]
  refine ⟨fun hst => ?_, fun l hl => h.chosen_not_off l (hch.symm.trans hl), fun hl => h.supervised (hch ▸ hl)⟩
  have hnone : m.chosen = none := by rw [hch, h.starting_idle hst]; rfl
  cases m with
  | idle => rfl
  | waiting | soaking | measuring => cases hnone

/-! ## The parts of the agreement -/

/-- SEQ, the supply and BOOT in agreement with the device phase (R57, R158, R167, R168, R170). -/
structure BootOk (s : State) : Prop where
  stopped_iff : s.seq.state = .stopped ↔ s.boot.phase = .starting
  running_powered : s.boot.phase = .running → s.poweredUp = true
  awaited_running : s.restartAwaited = true → s.boot.phase = .running
  loading_starting : s.boot.image = .loading → s.boot.phase = .starting

/-- LCONV's grant in agreement with SEQ and the tables (R33, R62, R69). -/
structure GrantOk (s : State) : Prop where
  granted_iff : s.seq.state = .granted ↔ s.lconv.isSome = true
  line_not_off : ∀ l, s.lineInFlight = some l → (s.line l).state ≠ .off
  amp_not_off : ∀ a, s.measuring (.amp a) = true → (s.amp a).state ≠ .off

theorem scheduled_iff (s : State) : Scheduled s ↔ BootOk s ∧ GrantOk s ∧ BridgeOk s ∧ BridgeFits s := by
  constructor
  · intro h
    exact ⟨⟨h.stopped_iff, h.running_powered, h.awaited_running, h.loading_starting⟩,
      ⟨h.granted_iff, h.line_not_off, h.amp_not_off⟩, ⟨h.starting_idle, h.chosen_not_off, h.supervised⟩,
      ⟨h.never_meet, h.waiting_measured⟩⟩
  · rintro ⟨hboot, hgrant, hbridge, hfits⟩
    exact
      { granted_iff := hgrant.granted_iff
        stopped_iff := hboot.stopped_iff
        starting_idle := hbridge.starting_idle
        running_powered := hboot.running_powered
        awaited_running := hboot.awaited_running
        loading_starting := hboot.loading_starting
        never_meet := hfits.never_meet
        waiting_measured := hfits.waiting_measured
        chosen_not_off := hbridge.chosen_not_off
        line_not_off := hgrant.line_not_off
        amp_not_off := hgrant.amp_not_off
        supervised := hbridge.supervised }

/-! ## Who measures what -/

theorem lineInFlight_of_none {s : State} (h : s.lconv = none) (l : LineId) : s.lineInFlight ≠ some l := by
  simp [State.lineInFlight, h]

theorem measuring_of_none {s : State} (h : s.lconv = none) (x : MeasSubject) : s.measuring x = false := by
  simp [State.measuring, h]

theorem lineInFlight_of_some {s : State} {m : Meas} (h : s.lconv = some m) (l : LineId) :
    s.lineInFlight = some l ↔ m.subject = .line l := by
  cases hm : m.subject <;> simp [State.lineInFlight, h, hm]

theorem measuring_of_some {s : State} {m : Meas} (h : s.lconv = some m) (x : MeasSubject) :
    s.measuring x = true ↔ m.subject = x := by
  simp [State.measuring, h]

/-- LCONV IDLE outside GRANTED is in agreement with everything. -/
theorem grantOk_of_none (s : State) (hl : s.lconv = none) (hg : s.seq.state ≠ .granted) : GrantOk s :=
  ⟨⟨fun h => absurd h hg, fun h => by simp [hl] at h⟩, fun l h => absurd h (lineInFlight_of_none hl l),
    fun a h => by simp [measuring_of_none hl] at h⟩

/-- A grant of what may be granted is in agreement with SEQ, the tables and EBRG. -/
theorem grantOk_of_fresh (s : State) (x : MeasSubject) (scan : ScanSettings) (now : Nat)
    (hl : s.lconv = some (Meas.fresh x scan now)) (hg : s.seq.state = .granted) (hx : Grantable s x) :
    GrantOk s ∧ ∀ l, s.lineHeld l = true → s.lineInFlight ≠ some l := by
  refine ⟨⟨⟨fun _ => by simp [hl], fun _ => hg⟩, fun l h => ?_, fun a h => ?_⟩, fun l hheld h => ?_⟩
  · obtain rfl : x = .line l := (lineInFlight_of_some hl l).mp h
    exact hx.1
  · obtain rfl : x = .amp a := (measuring_of_some hl _).mp h
    exact hx
  · obtain rfl : x = .line l := (lineInFlight_of_some hl l).mp h
    exact absurd (hheld.symm.trans hx.2) (by decide)

/-- The grant decision of an IDLE LCONV brings its grant into agreement, and never meets a line under test (R70, R81). -/
theorem grantDecision_grant (s : State) (hl : s.lconv = none) :
    GrantOk s.grantDecision ∧ ∀ l, s.grantDecision.lineHeld l = true → s.grantDecision.lineInFlight ≠ some l := by
  by_cases hg : s.seq.state = .granted
  · obtain ⟨hframe, ⟨x, hx, hst, hgr⟩ | ⟨hnone, hst⟩⟩ := grantDecision_decided s hg
    · refine grantOk_of_fresh _ x _ _ hx hst ?_
      rw [hframe]
      exact hgr
    · have hnone' := hnone.trans hl
      exact ⟨grantOk_of_none _ hnone' (by simp [hst]), fun l _ => lineInFlight_of_none hnone' l⟩
  · rw [grantDecision_ungranted s hg]
    exact ⟨grantOk_of_none s hl hg, fun l _ => lineInFlight_of_none hl l⟩

theorem BridgeOk.grantDecision {s : State} (h : BridgeOk s) : BridgeOk s.grantDecision := by
  rw [grantDecision_frame s]
  exact ⟨h.starting_idle, h.chosen_not_off, h.supervised⟩

theorem grantDecision_stopped_iff (s : State) : s.grantDecision.seq.state = .stopped ↔ s.seq.state = .stopped := by
  by_cases hg : s.seq.state = .granted
  · obtain ⟨-, ⟨-, -, hst, -⟩ | ⟨-, hst⟩⟩ := grantDecision_decided s hg <;> simp [hst, hg]
  · rw [grantDecision_ungranted s hg]

theorem BootOk.grantDecision {s : State} (h : BootOk s) : BootOk s.grantDecision := by
  have hst := (grantDecision_stopped_iff s).trans h.stopped_iff
  rw [grantDecision_frame s] at hst ⊢
  exact ⟨hst, h.running_powered, h.awaited_running, h.loading_starting⟩

theorem BootOk.withEbrg {s : State} (h : BootOk s) (e : Ebrg) : BootOk { s with ebrg := e } :=
  ⟨h.stopped_iff, h.running_powered, h.awaited_running, h.loading_starting⟩

theorem GrantOk.withEbrg {s : State} (h : GrantOk s) (e : Ebrg) : GrantOk { s with ebrg := e } :=
  ⟨h.granted_iff, h.line_not_off, h.amp_not_off⟩

/-- An act of EBRG alone that leaves it in agreement keeps the whole agreement. -/
theorem scheduled_of_bridge {s v : State} (hv : v = { s with ebrg := v.ebrg }) (hboot : BootOk s) (hgrant : GrantOk s)
    (hok : BridgeOk v) (hfits : BridgeFits v) : Scheduled v :=
  (scheduled_iff v).mpr ⟨hv ▸ hboot.withEbrg v.ebrg, hv ▸ hgrant.withEbrg v.ebrg, hok, hfits⟩

theorem earthRetry_frame (s : State) : s.earthRetry = { s with ebrg := s.earthRetry.ebrg } := by
  obtain ⟨m, heq, -⟩ := earthRetry_cases s
  rw [heq]
  rfl

/-- A grant decision after an act of EBRG, with LCONV IDLE throughout, brings the whole agreement. -/
theorem scheduled_grantDecision {s : State} (hl : s.lconv = none) (hboot : BootOk s) (hok : BridgeOk s)
    (hfits : BridgeFits s) : Scheduled s.grantDecision := by
  obtain ⟨hgrant, hmeet⟩ := grantDecision_grant s hl
  refine (scheduled_iff _).mpr ⟨hboot.grantDecision, hgrant, hok.grantDecision, hmeet, fun l hw => ?_⟩
  rw [grantDecision_frame s] at hw
  exact absurd (hfits.waiting_measured l hw) (lineInFlight_of_none hl l)

/-- A free report brings the three engines into agreement, whichever of EBRG and SEQ acts first (R69, R82). -/
theorem scheduled_freeReport {s : State} (hl : s.lconv = none) (hboot : BootOk s) (hok : BridgeOk s) (order : RaceOrder) :
    Scheduled (s.freeReport order) := by
  cases order with
  | earthFirst =>
    have hframe := earthRetry_frame s
    have hfits := earthRetry_fits s fun l _ => lineInFlight_of_none hl l
    refine scheduled_grantDecision ?_ ?_ hok.earthRetry hfits
    · rw [hframe]; exact hl
    · rw [hframe]; exact hboot.withEbrg _
  | seqFirst =>
    obtain ⟨hgrant, hmeet⟩ := grantDecision_grant s hl
    exact scheduled_of_bridge (earthRetry_frame _) hboot.grantDecision hgrant hok.grantDecision.earthRetry
      (earthRetry_fits _ hmeet)

end Sys2Proof.Machine.Converter
end

section
/-! SUPPORT. The agreement of LCONV, SEQ, EBRG and the device phase through every request and every event, and with it
the obligation that every step keeps it. -/

namespace Sys2Proof.Machine.Converter

/-! ## What the agreement looks at -/

/-- `s` and `t` look the same to the agreement but for the tables: a RESTART may have stopped being awaited, a load may
have ended, and nothing else differs. -/
structure SameEngines (s t : State) : Prop where
  seqState : t.seq.state = s.seq.state
  subject : t.lconv.map Meas.subject = s.lconv.map Meas.subject
  chosen : t.ebrg.mode.chosen = s.ebrg.mode.chosen
  held : t.ebrg.mode.heldLine = s.ebrg.mode.heldLine
  phase : t.boot.phase = s.boot.phase
  loading : t.boot.image = .loading → s.boot.image = .loading
  powered : t.poweredUp = s.poweredUp
  awaited : t.restartAwaited = true → s.restartAwaited = true
  supervision : t.cfg.earth.supervision = s.cfg.earth.supervision

/-- `s` and `t` look the same to the agreement, and nothing that was not OFF is OFF in `t`. -/
structure SameSchedule (s t : State) : Prop extends SameEngines s t where
  lines : ∀ l, (s.line l).state ≠ .off → (t.line l).state ≠ .off
  amps : ∀ a, (s.amp a).state ≠ .off → (t.amp a).state ≠ .off

section
variable {s t u : State}

theorem SameEngines.trans (h : SameEngines s t) (k : SameEngines t u) : SameEngines s u where
  seqState := k.seqState.trans h.seqState
  subject := k.subject.trans h.subject
  chosen := k.chosen.trans h.chosen
  held := k.held.trans h.held
  phase := k.phase.trans h.phase
  loading := h.loading ∘ k.loading
  powered := k.powered.trans h.powered
  awaited := h.awaited ∘ k.awaited
  supervision := k.supervision.trans h.supervision

theorem SameSchedule.trans (h : SameSchedule s t) (k : SameSchedule t u) : SameSchedule s u :=
  ⟨h.toSameEngines.trans k.toSameEngines, fun l => k.lines l ∘ h.lines l, fun a => k.amps a ∘ h.amps a⟩

theorem restartAwaited_congr (hdue : t.boot.restartDue = s.boot.restartDue)
    (hA : t.link.portA.held = s.link.portA.held) (hB : t.link.portB.held = s.link.portB.held) :
    t.restartAwaited = s.restartAwaited := by
  simp only [State.restartAwaited, PortState.restartHeld, hdue, hA, hB]

/-- States that have the engines, BOOT, the supply and the held frames in common look the same. -/
theorem SameEngines.of_parts (seq : t.seq.state = s.seq.state := by rfl) (lconv : t.lconv = s.lconv := by rfl)
    (ebrg : t.ebrg = s.ebrg := by rfl) (boot : t.boot = s.boot := by rfl) (power : t.power = s.power := by rfl)
    (heldA : t.link.portA.held = s.link.portA.held := by rfl)
    (heldB : t.link.portB.held = s.link.portB.held := by rfl)
    (supervision : t.cfg.earth.supervision = s.cfg.earth.supervision := by rfl) : SameEngines s t where
  seqState := seq
  subject := by rw [lconv]
  chosen := by rw [ebrg]
  held := by rw [ebrg]
  phase := by rw [boot]
  loading := by rw [boot]; exact id
  powered := by simp only [State.poweredUp, power]
  awaited := by rw [restartAwaited_congr (by rw [boot]) heldA heldB]; exact id
  supervision := supervision

theorem SameSchedule.of_parts (h : SameEngines s t := by exact .of_parts) (lines : t.cfg.lines = s.cfg.lines := by rfl)
    (amps : t.cfg.amps = s.cfg.amps := by rfl) : SameSchedule s t :=
  ⟨h, fun l => by simp only [State.line, lines]; exact id, fun a => by simp only [State.amp, amps]; exact id⟩

theorem Judging.sameSchedule (h : Judging s t) : SameSchedule s t :=
  .of_parts (.of_parts h.seqState h.lconv h.ebrg h.boot h.power (by rw [h.link]) (by rw [h.link]) (by rw [h.cfg]))
    (by rw [h.cfg]) (by rw [h.cfg])

theorem lineInFlight_iff (s : State) (l : LineId) :
    s.lineInFlight = some l ↔ s.lconv.map Meas.subject = some (.line l) := by
  cases hm : s.lconv with
  | none => simp [State.lineInFlight, hm]
  | some m => rw [lineInFlight_of_some hm]; simp

theorem waiting_iff (m : EbrgMode) (l : LineId) : m = .waiting l ↔ m.chosen = some l ∧ m.heldLine = none := by
  cases m <;> simp [EbrgMode.chosen, EbrgMode.heldLine]

theorem idle_iff (m : EbrgMode) : m = .idle ↔ m.chosen = none := by
  cases m <;> simp [EbrgMode.chosen]

theorem SameEngines.lineInFlight (h : SameEngines s t) (l : LineId) :
    t.lineInFlight = some l ↔ s.lineInFlight = some l := by
  rw [lineInFlight_iff, lineInFlight_iff, h.subject]

theorem SameEngines.measuring (h : SameEngines s t) (x : MeasSubject) : t.measuring x = s.measuring x := by
  simp only [State.measuring, h.subject]

theorem BootOk.congr (h : BootOk s) (k : SameEngines s t) : BootOk t where
  stopped_iff := by rw [k.seqState, k.phase]; exact h.stopped_iff
  running_powered := by rw [k.phase, k.powered]; exact h.running_powered
  awaited_running := by rw [k.phase]; exact h.awaited_running ∘ k.awaited
  loading_starting := by rw [k.phase]; exact h.loading_starting ∘ k.loading

theorem BridgeFits.congr (h : BridgeFits s) (k : SameEngines s t) : BridgeFits t where
  never_meet l hl := by
    rw [lineHeld_iff, k.held, ← lineHeld_iff] at hl
    exact fun hf => h.never_meet l hl ((k.lineInFlight l).mp hf)
  waiting_measured l hl := by
    rw [waiting_iff, k.chosen, k.held, ← waiting_iff] at hl
    exact (k.lineInFlight l).mpr (h.waiting_measured l hl)

theorem SameEngines.starting_idle (k : SameEngines s t) (h : BridgeOk s) (hst : t.boot.phase = .starting) :
    t.ebrg.mode = .idle := by
  rw [idle_iff, k.chosen, ← idle_iff]
  exact h.starting_idle (k.phase ▸ hst)

theorem SameEngines.supervised (k : SameEngines s t) (h : BridgeOk s) (hc : t.ebrg.mode.chosen.isSome = true) :
    t.cfg.earth.supervision = true := by
  rw [k.supervision]
  exact h.supervised (k.chosen ▸ hc)

theorem SameEngines.granted_iff (k : SameEngines s t) (h : GrantOk s) :
    t.seq.state = .granted ↔ t.lconv.isSome = true := by
  rw [k.seqState, ← Option.isSome_map (f := Meas.subject), k.subject, Option.isSome_map]
  exact h.granted_iff

theorem scheduled_congr (h : Scheduled s) (k : SameSchedule s t) : Scheduled t := by
  obtain ⟨hboot, hgrant, hok, hfits⟩ := (scheduled_iff s).mp h
  refine (scheduled_iff t).mpr ⟨hboot.congr k.toSameEngines, ⟨k.granted_iff hgrant, fun l hl => ?_, fun a ha => ?_⟩,
    ⟨k.starting_idle hok, fun l hl => ?_, k.supervised hok⟩, hfits.congr k.toSameEngines⟩
  · exact k.lines l (hgrant.line_not_off l ((k.lineInFlight l).mp hl))
  · exact k.amps a (hgrant.amp_not_off a (k.measuring _ ▸ ha))
  · exact k.lines l (hok.chosen_not_off l (k.chosen ▸ hl))

/-- A measurement completed or abandoned: LCONV IDLE and its free report bring the engines into agreement again. -/
theorem scheduled_released (h : Scheduled s) (k : SameSchedule s t) (order : RaceOrder) :
    Scheduled (t.releaseLconv.freeReport order) := by
  obtain ⟨hboot, -, hok, -⟩ := (scheduled_iff t).mp (scheduled_congr h k)
  exact scheduled_freeReport (s := t.releaseLconv) rfl ⟨hboot.stopped_iff, hboot.running_powered, hboot.awaited_running, hboot.loading_starting⟩
    ⟨hok.starting_idle, hok.chosen_not_off, hok.supervised⟩ order

/-- A choice of EBRG keeps the agreement. -/
theorem scheduled_choose (hboot : BootOk s) (hgrant : GrantOk s) : Scheduled s.choose :=
  scheduled_of_bridge (choose_frame s) hboot hgrant (choose_bridge s).1 (choose_bridge s).2

theorem SameSchedule.refl (s : State) : SameSchedule s s := .of_parts

end

/-! ## Ports -/

theorem sameSchedule_setPort (s : State) (p : Port) (x : PortState) (h : x.held = (s.port p).held) :
    SameSchedule s (s.setPort p x) := by
  cases p with
  | portA => exact .of_parts (.of_parts (heldA := h))
  | portB => exact .of_parts (.of_parts (heldB := h))

theorem sameSchedule_hunt (s : State) (p : Port) : SameSchedule s (s.hunt p) := sameSchedule_setPort s p _ rfl

theorem sameSchedule_dropFrame (s : State) (p : Port) : SameSchedule s (s.dropFrame p) := sameSchedule_setPort s p _ rfl

/-- What a request leaves: the agreement, and a RESTART accepted in RUNNING only. -/
structure Keeps (r : State × Answer) : Prop where
  scheduled : Scheduled r.1
  restarts : r.2.restarts.isSome = true → r.1.boot.phase = .running

theorem keeps_bare {s : State} (h : Scheduled s) (st : Status) : Keeps (s, .bare st) := ⟨h, nofun⟩

theorem keeps_full {s : State} (h : Scheduled s) (st : Status) (c : Content) : Keeps (s, .full st c) := ⟨h, nofun⟩

theorem keeps_reading {s : State} (h : Scheduled s) (c : State → Content) : Keeps (reading c s) := keeps_full h ..

theorem keeps_noPayload {s : State} (payload : List Byte) {act : State → State × Answer} (h : Scheduled s)
    (hact : Keeps (act s)) : Keeps (noPayload payload s act) := by
  unfold noPayload
  split
  · exact hact
  · exact keeps_bare h _

theorem keeps_parsed {α : Type} {s : State} (x : Option α) {act : α → State → State × Answer} (h : Scheduled s)
    (hact : ∀ y, Keeps (act y s)) : Keeps (parsed x s act) := by
  cases x with
  | none => exact keeps_bare h _
  | some y => exact hact y

theorem restartHeld_holdFrame (s : State) (p : Port) (kind : Byte) (view : View) (a : Answer)
    (h : (s.holdFrame p kind view a).restartAwaited = true) : s.restartAwaited = true ∨ a.restarts.isSome = true := by
  cases p <;>
  · simp only [State.holdFrame, State.setPort, State.restartAwaited, PortState.restartHeld, Option.any_some,
      Bool.or_eq_true] at h ⊢
    tauto

/-- A port that holds a frame with its reply leaves the agreement (R157, R158). -/
theorem scheduled_holdFrame (p : Port) (kind : Byte) (view : View) {r : State × Answer} (h : Keeps r) :
    Scheduled (r.1.holdFrame p kind view r.2) := by
  obtain ⟨hboot, hgrant, hok, hfits⟩ := (scheduled_iff _).mp h.scheduled
  have hrun : (r.1.holdFrame p kind view r.2).restartAwaited = true → r.1.boot.phase = .running := fun ha =>
    (restartHeld_holdFrame _ _ _ _ _ ha).elim hboot.awaited_running h.restarts
  refine (scheduled_iff _).mpr ?_
  cases p <;>
    exact ⟨⟨hboot.stopped_iff, hboot.running_powered, hrun, hboot.loading_starting⟩,
      ⟨hgrant.granted_iff, hgrant.line_not_off, hgrant.amp_not_off⟩,
      ⟨hok.starting_idle, hok.chosen_not_off, hok.supervised⟩, ⟨hfits.never_meet, hfits.waiting_measured⟩⟩

/-- The arrival of a request whose acts keep the agreement keeps it. -/
theorem scheduled_deliver {s : State} (p : Port) (dest kind : Byte) (payload : List Byte)
    {unit : State → State × Answer} {multi : State → State} (h : Scheduled s)
    (hunit : ∀ u, Scheduled u → u.boot.phase = .running ∨ kind = identifyKind → Keeps (unit u))
    (hmulti : ∀ u, Scheduled u → u.boot.phase = .running → Scheduled (multi u)) :
    Scheduled (s.deliver p dest kind payload unit multi) := by
  have hhunt : Scheduled (s.hunt p) := scheduled_congr h (sameSchedule_hunt s p)
  have hdrop : Scheduled (s.dropFrame p) := scheduled_congr h (sameSchedule_dropFrame s p)
  have hphase : (s.hunt p).boot.phase = s.boot.phase := (sameSchedule_hunt s p).phase
  unfold State.deliver
  split
  case isFalse => exact h
  split
  case isTrue => exact hdrop
  split
  · exact hhunt
  · split
    · exact hdrop
    · unfold State.takeUnit
      split
      · exact scheduled_holdFrame p kind .live (keeps_bare hhunt .starting)
      · next hst =>
        refine scheduled_holdFrame p kind _ (hunit _ hhunt ?_)
        by_cases hk : kind = identifyKind
        · exact .inr hk
        · cases hp : (s.hunt p).boot.phase with
          | starting => exact absurd ⟨hp, hk⟩ hst
          | running => exact .inl rfl
  · next hdel =>
    split
    · exact hdrop
    · refine hmulti _ hhunt (hphase.trans ?_)
      unfold State.delivery at hdel
      split at hdel
      · cases hdel
      · split at hdel
        · next hm => exact hm.2.2
        · cases hdel

theorem scheduled_deliverUnit {s : State} (p : Port) (dest kind : Byte) (payload : List Byte)
    {unit : State → State × Answer} (h : Scheduled s) (hunit : ∀ u, Scheduled u → Keeps (unit u)) :
    Scheduled (s.deliverUnit p dest kind payload unit) :=
  scheduled_deliver p dest kind payload h (fun u hu _ => hunit u hu) fun _ hu _ => hu

theorem scheduled_deliverAny {s : State} (p : Port) (dest kind : Byte) (payload : List Byte)
    {unit : State → State × Answer} (h : Scheduled s) (hunit : ∀ u, Scheduled u → Keeps (unit u)) :
    Scheduled (s.deliverAny p dest kind payload unit) :=
  scheduled_deliver p dest kind payload h (fun u hu _ => hunit u hu) fun u hu _ => (hunit u hu).scheduled

/-! ## SET-LINE (R4 to R7, R33, R80, R89) -/

theorem line_setLineEntry (s : State) (l j : LineId) (e : LineEntry) :
    (s.setLineEntry l e).line j = if j = l then e else s.line j := by
  by_cases h : j = l
  · subst h; simp [State.setLineEntry, State.line]
  · have hv : l.val ≠ j.val := fun hv => h (Fin.ext hv.symm)
    simp [State.setLineEntry, State.line, h, Vector.getElem_set_ne _ _ hv]

theorem sameSchedule_setLearn (s : State) (l : LineId) (r : Option LearnRec) : SameSchedule s (s.setLearn l r) :=
  .of_parts

theorem sameSchedule_lineOffEffects (s : State) (l : LineId) : SameSchedule s (s.lineOffEffects l) := by
  have hrest : ∀ u : State, SameSchedule u
      ((((u.zeroMaskedRun l).dropNotices (.line l)).dropConfirm (.line l)).setLearn l none) := fun _ => .of_parts
  exact (judging_turnOffConds s (.line l)).sameSchedule.trans (hrest _)

theorem sameSchedule_reactLineState (s : State) (l : LineId) (old new : SubjState) :
    SameSchedule s (s.reactLineState l old new) := by
  unfold State.reactLineState
  split
  · exact sameSchedule_lineOffEffects s l
  · exact (Judging.ite (judging_announceActive s (.line l)) (.refl s)).sameSchedule

theorem sameSchedule_markRebuild (s : State) : SameSchedule s s.markRebuild := by
  unfold State.markRebuild
  split <;> exact .of_parts

theorem sameSchedule_reactLineAmp (s : State) (l : LineId) (written : Bool) : SameSchedule s (s.reactLineAmp l written) := by
  unfold State.reactLineAmp
  split
  · exact (sameSchedule_markRebuild s).trans
      (Judging.ite (judging_attributeLine s.markRebuild l) (.refl _)).sameSchedule
  · exact .refl s

theorem judging_reactZref (s : State) (l : LineId) (written : Option (Option Nat)) (old : Option Nat) :
    Judging s (s.reactZref l written old) := by
  unfold State.reactZref
  split
  · exact .refl s
  · exact judging_emptyRef s l
  · exact .ite (.refl s) (judging_emptyRef s l)

/-- An accepted SET-LINE before LCONV, SEQ and EBRG react. -/
def lineWritten (c : LineChange) (s : State) : State :=
  let old := s.line c.line
  let new := c.write old
  let s1 := (s.bumpCounter.setLineEntry c.line new).reactLineState c.line old.state new.state
  let s2 := s1.reevalOutputs.reactLineAmp c.line c.amp.isSome
  let s3 := (s2.announceEntries s).reevalOutputs
  (s3.reactLineProfile c.line old.profile new.profile).reactZref c.line c.zref old.zref

theorem applySetLine_eq (c : LineChange) (order : RaceOrder) (s : State) :
    applySetLine c order s
      = (lineWritten c s).reactBlocks c.line (s.line c.line).state (c.write (s.line c.line)).state order := rfl

/-- Up to the reactions of the blocks, a SET-LINE changes for the agreement its line's entry alone. -/
theorem sameSchedule_lineWritten (c : LineChange) (s : State) :
    SameSchedule (s.setLineEntry c.line (c.write (s.line c.line))) (lineWritten c s) := by
  have hbump : SameSchedule (s.setLineEntry c.line (c.write (s.line c.line)))
      (s.bumpCounter.setLineEntry c.line (c.write (s.line c.line))) := .of_parts
  exact hbump.trans ((sameSchedule_reactLineState ..).trans ((judging_reevalOutputs _).sameSchedule.trans
    ((sameSchedule_reactLineAmp ..).trans (((judging_announceEntries _ s).trans (judging_reevalOutputs _)).trans
      ((judging_reevaluateAll ..).trans (judging_reactZref ..))).sameSchedule)))

/-- EBRG's act when a line has been set OFF leaves EBRG in agreement, whether or not that line was chosen (R82, R89). -/
theorem earthAfterOff_bridge (s : State) (l : LineId) (hok : s.ebrg.mode.chosen ≠ some l → BridgeOk s)
    (hmeet : ∀ j, s.lineHeld j = true → s.lineInFlight ≠ some j) :
    BridgeOk (s.earthAfterOff l) ∧ BridgeFits (s.earthAfterOff l) := by
  unfold State.earthAfterOff
  split
  · exact choose_bridge _
  · next h => exact ⟨(hok h).earthRetry, earthRetry_fits s hmeet⟩

theorem earthAfterOff_frame (s : State) (l : LineId) : s.earthAfterOff l = { s with ebrg := (s.earthAfterOff l).ebrg } := by
  unfold State.earthAfterOff
  split
  · rw [choose_frame]; rfl
  · exact earthRetry_frame s

/-- The acts of LCONV, SEQ and EBRG bring a state whose line `l` has just been set OFF into agreement (R33, R89). -/
theorem scheduled_blocksAfterLineOff (s : State) (l : LineId) (order : RaceOrder) (hboot : BootOk s)
    (hgrant : s.measuring (.line l) = false → GrantOk s) (hok : s.ebrg.mode.chosen ≠ some l → BridgeOk s)
    (hfits : BridgeFits s) : Scheduled (s.blocksAfterLineOff l order) := by
  unfold State.blocksAfterLineOff
  split
  · have hboot' : BootOk s.releaseLconv :=
      ⟨hboot.stopped_iff, hboot.running_powered, hboot.awaited_running, hboot.loading_starting⟩
    have hok' : s.releaseLconv.ebrg.mode.chosen ≠ some l → BridgeOk s.releaseLconv := fun hc =>
      ⟨(hok hc).starting_idle, (hok hc).chosen_not_off, (hok hc).supervised⟩
    cases order with
    | earthFirst =>
      obtain ⟨hb, hf⟩ := earthAfterOff_bridge s.releaseLconv l hok' fun j _ => lineInFlight_of_none rfl j
      have hframe := earthAfterOff_frame s.releaseLconv l
      exact scheduled_grantDecision (by rw [hframe]; rfl) (by rw [hframe]; exact hboot'.withEbrg _) hb hf
    | seqFirst =>
      obtain ⟨hg, hmeet⟩ := grantDecision_grant s.releaseLconv rfl
      have hchosen : s.releaseLconv.grantDecision.ebrg = s.releaseLconv.ebrg := by rw [grantDecision_frame]
      obtain ⟨hb, hf⟩ := earthAfterOff_bridge s.releaseLconv.grantDecision l
        (fun hc => (hok' (hchosen ▸ hc)).grantDecision) hmeet
      exact scheduled_of_bridge (earthAfterOff_frame _ l) hboot'.grantDecision hg hb hf
  · next hm =>
    have hgrant' := hgrant (by simpa using hm)
    split
    · obtain ⟨hb, hf⟩ := earthAfterOff_bridge s l hok hfits.never_meet
      exact scheduled_of_bridge (earthAfterOff_frame s l) hboot hgrant' hb hf
    · next hc => exact (scheduled_iff s).mpr ⟨hboot, hgrant', hok hc, hfits⟩

theorem scheduled_applySetLine (c : LineChange) (order : RaceOrder) {s : State} (h : Scheduled s) :
    Scheduled (applySetLine c order s) := by
  obtain ⟨hboot, hgrant, hok, hfits⟩ := (scheduled_iff s).mp h
  have hset : SameEngines s (s.setLineEntry c.line (c.write (s.line c.line))) := .of_parts
  have hwritten := sameSchedule_lineWritten c s
  have heng : SameEngines s (lineWritten c s) := hset.trans hwritten.toSameEngines
  have hother : ∀ j, j ≠ c.line → (s.line j).state ≠ .off → ((lineWritten c s).line j).state ≠ .off := fun j hj hs =>
    hwritten.lines j (by rwa [line_setLineEntry, if_neg hj])
  have hamps : ∀ a, (s.amp a).state ≠ .off → ((lineWritten c s).amp a).state ≠ .off := hwritten.amps
  rw [applySetLine_eq]
  unfold State.reactBlocks
  split
  · refine scheduled_blocksAfterLineOff _ _ _ (hboot.congr heng) (fun hm => ?_) (fun hc => ?_) (hfits.congr heng)
    · refine ⟨heng.granted_iff hgrant, fun j hj => ?_, fun a ha => ?_⟩
      · refine hother j (fun hjl => ?_) (hgrant.line_not_off j ((heng.lineInFlight j).mp hj))
        subst hjl
        have hmeas : (lineWritten c s).measuring (.line c.line) = true := decide_eq_true ((lineInFlight_iff _ _).mp hj)
        exact absurd (hm.symm.trans hmeas) (by decide)
      · exact hamps a (hgrant.amp_not_off a (heng.measuring _ ▸ ha))
    · refine ⟨heng.starting_idle hok, fun j hj => ?_, heng.supervised hok⟩
      exact hother j (fun hjl => hc (hjl ▸ hj)) (hok.chosen_not_off j (heng.chosen ▸ hj))
  · next hnot =>
    have hline : ∀ j, (s.line j).state ≠ .off → ((lineWritten c s).line j).state ≠ .off := fun j hs => by
      by_cases hj : j = c.line
      · subst hj
        refine hwritten.lines _ ?_
        rw [line_setLineEntry, if_pos rfl]
        exact fun hoff => hnot ⟨hs, hoff⟩
      · exact hother j hj hs
    have hsame : Scheduled (lineWritten c s) := scheduled_congr h ⟨heng, hline, hamps⟩
    split
    · unfold State.bridgeAfterLineOn
      obtain ⟨hb, hg, -, -⟩ := (scheduled_iff _).mp hsame
      split
      · exact scheduled_choose hb hg
      · exact hsame
    · exact hsame

end Sys2Proof.Machine.Converter
end

section
/-! SUPPORT. The agreement of the engines through the remaining requests, the events and the restarts, and the
obligation that every step keeps it. -/

namespace Sys2Proof.Machine.Converter

/-! ## The other setting requests -/

theorem amp_setAmpEntry (s : State) (a b : AmpId) (e : AmpEntry) :
    (s.setAmpEntry a e).amp b = if b = a then e else s.amp b := by
  by_cases h : b = a
  · subst h; simp [State.setAmpEntry, State.amp]
  · have hv : a.val ≠ b.val := fun hv => h (Fin.ext hv.symm)
    simp [State.setAmpEntry, State.amp, h, Vector.getElem_set_ne _ _ hv]

theorem judging_ampOffEffects (s : State) (a : AmpId) : Judging s (s.ampOffEffects a) :=
  (judging_turnOffConds ..).trans ((judging_dropNotices ..).trans (judging_dropConfirm ..))

theorem judging_reactAmpState (s : State) (a : AmpId) (old new : SubjState) : Judging s (s.reactAmpState a old new) :=
  .ite (judging_ampOffEffects s a)
    (.ite (judging_setFirstCount s a true) (.ite (judging_announceActive s (.amp a)) (.refl s)))

theorem scheduled_applySetAmp (c : AmpChange) (order : RaceOrder) {s : State} (h : Scheduled s) :
    Scheduled (applySetAmp c order s) := by
  obtain ⟨hboot, hgrant, hok, hfits⟩ := (scheduled_iff s).mp h
  let set := s.bumpCounter.setAmpEntry c.amp (c.write (s.amp c.amp))
  let u := (set.reactAmpState c.amp (s.amp c.amp).state (c.write (s.amp c.amp)).state).reevalOutputs
  have hset : SameEngines s set := .of_parts
  have hjudge : Judging set u := (judging_reactAmpState ..).trans (judging_reevalOutputs _)
  have heng : SameEngines s u := hset.trans hjudge.sameSchedule.toSameEngines
  have hlines : ∀ l, (s.line l).state ≠ .off → (u.line l).state ≠ .off := hjudge.sameSchedule.lines
  have hbridge : BridgeOk u :=
    ⟨heng.starting_idle hok, fun l hl => hlines l (hok.chosen_not_off l (heng.chosen ▸ hl)), heng.supervised hok⟩
  change Scheduled (u.abandonAmp c.amp (s.amp c.amp).state (c.write (s.amp c.amp)).state order)
  unfold State.abandonAmp
  split
  · have hboot' := hboot.congr heng
    exact scheduled_freeReport (s := u.releaseLconv) rfl
      ⟨hboot'.stopped_iff, hboot'.running_powered, hboot'.awaited_running, hboot'.loading_starting⟩
      ⟨hbridge.starting_idle, hbridge.chosen_not_off, hbridge.supervised⟩ order
  · next hnot =>
    refine (scheduled_iff u).mpr ⟨hboot.congr heng, ⟨heng.granted_iff hgrant, fun l hl => ?_, fun a ha => ?_⟩,
      hbridge, hfits.congr heng⟩
    · exact hlines l (hgrant.line_not_off l ((heng.lineInFlight l).mp hl))
    · have hs : (s.amp a).state ≠ .off := hgrant.amp_not_off a (heng.measuring _ ▸ ha)
      refine hjudge.sameSchedule.amps a (?_ : ((s.bumpCounter.setAmpEntry c.amp _).amp a).state ≠ .off)
      rw [amp_setAmpEntry]
      split
      · next hac =>
        subst hac
        exact fun hoff => hnot ⟨hs, hoff, ha⟩
      · exact hs

theorem sameSchedule_applySetAmpWide (c : AmpWideChange) (s : State) : SameSchedule s (applySetAmpWide c s) := by
  have hset : SameSchedule s
      { s.bumpCounter with cfg := { s.bumpCounter.cfg with wide := c.write s.cfg.wide } } := .of_parts
  exact hset.trans (Judging.ite (.refl _) (judging_reevaluateAll ..)).sameSchedule

theorem sameSchedule_applySetProfile (c : ProfileChange) (s : State) : SameSchedule s (applySetProfile c s) := by
  have hset : SameSchedule s
      { s.bumpCounter with cfg := { s.bumpCounter.cfg with
          profiles := s.cfg.profiles.set c.profile (c.write s.cfg.profiles[c.profile]) } } := .of_parts
  exact hset.trans (judging_reevaluateAll ..).sameSchedule

theorem sameSchedule_putRing (s : State) (form : RingForm) (ring : List RingEntry) :
    SameSchedule s (s.putRing form ring) := by
  have hstate : s.seq.newRing.state = s.seq.state := by unfold Seq.newRing; split <;> rfl
  exact .of_parts (.of_parts (seq := hstate))

theorem sameSchedule_applySetScan (c : ScanChange) (s : State) : SameSchedule s (applySetScan c s) := by
  have hset : SameSchedule s
      { s.bumpCounter with cfg := { s.bumpCounter.cfg with scan := c.write s.bumpCounter.cfg.scan } } := .of_parts
  unfold applySetScan
  dsimp only
  split
  · exact hset.trans (sameSchedule_putRing ..)
  · split
    · exact hset.trans (sameSchedule_putRing ..)
    · exact hset

theorem scheduled_applySetPilot (d : Nat) (order : RaceOrder) {s : State} (h : Scheduled s) :
    Scheduled (applySetPilot d order s) := by
  unfold applySetPilot
  split
  · exact scheduled_congr h .of_parts
  · let u := ({ s.bumpCounter with cfg := { s.bumpCounter.cfg with pilotD := d } } : State).rearmAll
    have hset : SameSchedule s u := .of_parts
    change Scheduled (u.abandonAny order)
    unfold State.abandonAny
    split
    · exact scheduled_released h hset order
    · exact scheduled_congr h hset

theorem chosen_turnOff (e : Ebrg) : e.turnOff.mode = .idle := by
  unfold Ebrg.turnOff
  split
  · rfl
  · next h => exact (idle_iff _).mpr h

theorem scheduled_applySetEarth (c : EarthChange) {s : State} (h : Scheduled s) : Scheduled (applySetEarth c s) := by
  obtain ⟨hboot, hgrant, hok, hfits⟩ := (scheduled_iff s).mp h
  let u : State := { s.bumpCounter with cfg := { s.bumpCounter.cfg with earth := c.write s.cfg.earth } }
  have hboot' : BootOk u :=
    ⟨hboot.stopped_iff, hboot.running_powered, hboot.awaited_running, hboot.loading_starting⟩
  have hgrant' : GrantOk u := ⟨hgrant.granted_iff, hgrant.line_not_off, hgrant.amp_not_off⟩
  have hsame : u.cfg.earth.supervision = s.cfg.earth.supervision → Scheduled u := fun hsup =>
    scheduled_congr h (.of_parts (.of_parts (supervision := hsup)))
  change Scheduled (u.reactSupervision s.cfg.earth.supervision (c.write s.cfg.earth).supervision)
  cases hold : s.cfg.earth.supervision <;> cases hnew : (c.write s.cfg.earth).supervision
  case true.false =>
    exact (scheduled_iff _).mpr ⟨hboot'.withEbrg _, hgrant'.withEbrg _, bridgeOk_idle _ (chosen_turnOff _),
      bridgeFits_idle _ (chosen_turnOff _)⟩
  case false.true => exact scheduled_choose hboot' hgrant'
  case true.true => exact hsame (hnew.trans hold.symm)
  case false.false => exact hsame (hnew.trans hold.symm)

theorem sameSchedule_applySetOutput (c : OutputChange) (s : State) : SameSchedule s (applySetOutput c s) := by
  unfold applySetOutput
  cases c.out <;> exact .of_parts

/-! ## The actions -/

theorem keeps_learnAct {s : State} (c : LineId × Nat × Bool) (h : Scheduled s) : Keeps (learnAct c s) := by
  unfold learnAct
  dsimp only
  split
  · exact keeps_bare h _
  · split
    · exact keeps_bare h _
    · exact keeps_full (scheduled_congr h ((sameSchedule_setLearn ..).trans (judging_emptyRef ..).sameSchedule)) _ _

theorem keeps_abortLearnAct {s : State} (l : LineId) (h : Scheduled s) : Keeps (abortLearnAct l s) := by
  unfold abortLearnAct
  split
  · exact keeps_bare h _
  · exact keeps_full (scheduled_congr h ((sameSchedule_setLearn ..).trans (judging_notify ..).sameSchedule)) _ _

theorem judging_applyInject (c : Injection) (s : State) : Judging s (applyInject c s) :=
  (judging_dropInjections s c.subject).trans (.ite (.refl _) (judging_setCond ..))

theorem keeps_testInjectAct {s : State} (c : Injection) (h : Scheduled s) : Keeps (testInjectAct c s) := by
  unfold testInjectAct
  split
  · exact keeps_bare h _
  · exact keeps_full (scheduled_congr h (judging_applyInject c s).sameSchedule) _ _

theorem keeps_clearLatchAct {s : State} (xs : List Subject) (h : Scheduled s) : Keeps (clearLatchAct xs s) :=
  keeps_full (scheduled_congr h ((judging_clearLatches ..).trans (judging_reevalOutputs _)).sameSchedule) _ _

theorem sameSchedule_clearMinMaxes (ls : List LineId) (s : State) : SameSchedule s (ls.foldl State.clearMinMax s) := by
  induction ls generalizing s with
  | nil => exact .refl s
  | cons l ls ih =>
    have hone : SameSchedule s (s.clearMinMax l) := .of_parts
    exact hone.trans (ih _)

theorem keeps_clearMinmaxAct {s : State} (ls : List LineId) (h : Scheduled s) : Keeps (clearMinmaxAct ls s) :=
  keeps_bare (scheduled_congr h (sameSchedule_clearMinMaxes ls s)) _

theorem keeps_emergencyAct {s : State} (zones : BitVec 16) (h : Scheduled s) : Keeps (emergencyAct zones s) := by
  have hset : SameSchedule s { s with zones := zones } := .of_parts
  exact keeps_full (scheduled_congr h
    (hset.trans ((judging_announceEntries _ s).trans (judging_reevalOutputs _)).sameSchedule)) _ _

theorem keeps_saveImageAct {s : State} (h : Scheduled s) : Keeps (saveImageAct s) := by
  unfold saveImageAct
  split
  · exact keeps_bare h _
  · refine keeps_full (scheduled_congr h (?_ : SameSchedule s s.beginSave)) _ _
    exact { SameSchedule.refl s with }

theorem keeps_pollAct {s : State} (minimum : Level) (h : Scheduled s) : Keeps (pollAct minimum s) := by
  unfold pollAct
  split
  · exact keeps_full (scheduled_congr h .of_parts) _ _
  · exact keeps_full h _ _

theorem keeps_setLineAct {s : State} (order : RaceOrder) (c : LineChange) (h : Scheduled s) :
    Keeps (setLineAct order c s) := by
  unfold setLineAct
  split
  · exact keeps_bare h _
  · exact keeps_full (scheduled_applySetLine c order h) _ _

/-! ## Restarts (Chapter 11) -/

/-- Whatever came before, a start-up of a powered part that is not loading ends in agreement: round 0 stands on its REF
slot and EBRG has made its choice (R169). -/
theorem scheduled_startUp (s : State) (cause : RestartCause) (config : Bool) (hp : s.poweredUp = true)
    (hload : s.boot.image ≠ .loading) : Scheduled (s.startUp cause config) := by
  have hjudge : Judging s.clearAll (s.clearAll.announceRestart cause config) :=
    ((judging_notify ..).trans (judging_reevalOutputs _)).trans (.ite (judging_moveCond ..) (.refl _))
  let u := { s.clearAll.announceRestart cause config with
    boot := { (s.clearAll.announceRestart cause config).boot with phase := .running } }.startOutputs
  have hpow : (s.clearAll.announceRestart cause config).poweredUp = true := by
    rw [hjudge.sameSchedule.powered]; exact hp
  have himg : (s.clearAll.announceRestart cause config).boot.image = .loading → False := fun h => by
    rw [hjudge.boot] at h; exact hload h
  have hboot : BootOk u.startRound := by
    refine ⟨⟨fun h => ?_, fun h => ?_⟩, fun _ => hpow, fun _ => rfl, fun h => (himg h).elim⟩ <;> cases h
  have hgrant : GrantOk u.startRound := (grantOk_of_fresh _ .ref _ _ rfl rfl trivial).1
  exact scheduled_choose hboot hgrant

/-- A part stopped by the start of a restart is in agreement (R34, R75, R90, R149). -/
theorem scheduled_of_stopped (s : State) (hphase : s.boot.phase = .starting) (hseq : s.seq.state = .stopped)
    (hlconv : s.lconv = none) (hidle : s.ebrg.mode = .idle) (hawait : s.restartAwaited = false) : Scheduled s :=
  (scheduled_iff s).mpr
    ⟨⟨by simp [hphase, hseq], fun h => by simp [hphase] at h, fun h => by simp [hawait] at h, fun _ => hphase⟩,
      grantOk_of_none s hlconv (by simp [hseq]), bridgeOk_idle s hidle, bridgeFits_idle s hidle⟩

theorem scheduled_hardStop (s : State) (power : Power) : Scheduled { s.hardStop with power := power } :=
  scheduled_of_stopped _ rfl rfl rfl rfl rfl

theorem scheduled_softRestart {s : State} (k : RestartCopy) (h : Scheduled s) (hrun : s.boot.phase = .running) :
    Scheduled (s.softRestart k) :=
  scheduled_startUp _ _ _ (h.running_powered hrun) fun hload =>
    absurd (hrun.symm.trans (h.loading_starting hload)) (by decide)

theorem keeps_restartUnitAct {s : State} (h : Scheduled s) (hrun : s.boot.phase = .running) :
    Keeps (restartUnitAct s) := by
  unfold restartUnitAct
  split
  · exact keeps_bare h _
  · exact ⟨h, fun _ => hrun⟩

theorem scheduled_restartMultiAct {s : State} (payload : List Byte) (h : Scheduled s) (hrun : s.boot.phase = .running) :
    Scheduled (restartMultiAct payload s) := by
  unfold restartMultiAct
  split
  · exact scheduled_softRestart _ h hrun
  · exact h

/-- A part in a hard reset is in STARTING. -/
theorem starting_of_unpowered {s : State} (h : Scheduled s) (hp : s.poweredUp = false) : s.boot.phase = .starting := by
  cases hphase : s.boot.phase with
  | starting => rfl
  | running => exact absurd (hp.symm.trans (h.running_powered hphase)) (by decide)

theorem scheduled_release {s : State} (cause : RestartCause) (straps : Straps) (h : Scheduled s)
    (hp : s.poweredUp = false) : Scheduled (s.release cause straps) := by
  have hphase := starting_of_unpowered h hp
  unfold State.release
  dsimp only
  split
  · exact scheduled_startUp _ _ _ rfl nofun
  · exact scheduled_of_stopped _ hphase (h.stopped_iff.mpr hphase)
      (Option.not_isSome_iff_eq_none.mp fun hl => absurd ((h.granted_iff.mpr hl).symm.trans (h.stopped_iff.mpr hphase)) (by decide))
      (h.starting_idle hphase)
      (Bool.eq_false_iff.mpr fun ha => absurd ((h.awaited_running ha).symm.trans hphase) (by decide))

theorem scheduled_finishLoad (s : State) (cause : RestartCause) (loaded : Option Settings) (hp : s.poweredUp = true) :
    Scheduled (s.finishLoad cause loaded) := by
  cases loaded with
  | some cfg => exact scheduled_startUp _ _ _ hp nofun
  | none => exact scheduled_startUp _ _ _ hp nofun

/-! ## The events -/

theorem sameSchedule_waitUntil (s : State) (t : Nat) : SameSchedule s (s.waitUntil t) := .of_parts

/-- LCONV goes on with the measurement of the same subject. -/
theorem sameSchedule_lconv {s : State} {m n : Meas} (hm : s.lconv = some m) (hsub : n.subject = m.subject) :
    SameSchedule s { s with lconv := some n } :=
  { SameSchedule.refl s with subject := by simp [hm, hsub] }

/-- EBRG goes on with a test of the same line. -/
theorem sameSchedule_setMode (s : State) (m : EbrgMode) (hc : m.chosen = s.ebrg.mode.chosen)
    (hh : m.heldLine = s.ebrg.mode.heldLine) : SameSchedule s (s.setMode m) :=
  { SameSchedule.refl s with chosen := hc, held := hh }

theorem releaseHeld_awaited (s : State) (p : Port) (f : HeldFrame) (hf : (s.port p).held = some f)
    (h : (s.releaseHeld p f).restartAwaited = true) : s.restartAwaited = true := by
  have hdue : s.boot.dueAfter f = s.boot.restartDue ∨ s.boot.dueAfter f = f.restarts := by
    unfold Boot.dueAfter
    split
    · next hk => exact .inl hk.symm
    · exact .inr rfl
  cases p <;> rcases hdue with hd | hd <;>
    simp_all [State.releaseHeld, State.setPort, State.port, State.restartAwaited, PortState.restartHeld] <;> tauto

theorem scheduled_replySent (p : Port) {s : State} (h : Scheduled s) (f : HeldFrame) (hf : (s.port p).held = some f) :
    Scheduled (s.releaseHeld p f) := by
  refine scheduled_congr h ?_
  have hawait := releaseHeld_awaited s p f hf
  cases p <;> exact { SameSchedule.refl s with awaited := hawait }

theorem sameSchedule_replyBegin (s : State) (p : Port) (f : HeldFrame) (hf : (s.port p).held = some f) :
    SameSchedule s (s.setPort p { s.port p with held := some f.begin }) := by
  have hawait : (s.setPort p { s.port p with held := some f.begin }).restartAwaited = s.restartAwaited := by
    cases p <;> simp_all [State.setPort, State.port, State.restartAwaited, PortState.restartHeld, HeldFrame.begin]
  cases p <;> exact { SameSchedule.refl s with awaited := fun h => hawait ▸ h }

theorem sameSchedule_filterEvac (s : State) : SameSchedule s s.filterEvac := by
  have hset : SameSchedule s { s with evac := { s.evac with since := none, filtered := s.evac.pinLow } } := .of_parts
  exact hset.trans ((judging_announceEntries _ s).trans (judging_reevalOutputs _)).sameSchedule

theorem sameSchedule_saveDone (s : State) (image : List Byte) : SameSchedule s (s.saveDone image) := by
  have hset : SameSchedule s { s with
      memory := writeBytes s.memory 0 image, boot := { s.boot with save := .done, saveCopy := none } } :=
    { SameSchedule.refl s with }
  exact hset.trans (Judging.ite (judging_moveCond ..) (.refl _)).sameSchedule

theorem sameSchedule_saveFailed (s : State) (image : List Byte) : SameSchedule s (s.saveFailed image) := by
  have hspoil : SameSchedule s (s.spoilMemory image) := .of_parts
  exact hspoil.trans { SameSchedule.refl (s.spoilMemory image) with }

/-! ### Completions of LCONV -/

theorem sameSchedule_enterMinMax (s : State) (l : LineId) (r : LineResult) : SameSchedule s (s.enterMinMax l r) := by
  unfold State.enterMinMax
  split
  · split
    · exact .of_parts
    · exact .refl s
  · exact .refl s

theorem judging_voteLine (s : State) (l : LineId) (r : LineResult) : Judging s (s.voteLine l r) := by
  unfold State.voteLine
  split
  · exact .foldl (fun _ _ => judging_vote ..) _ _
  · exact .refl s

theorem sameSchedule_moveDegraded (s : State) (l : LineId) (status : MeasStatus) :
    SameSchedule s (s.moveDegraded l status) := by
  have hset : SameSchedule s { s with recs := { s.recs with
      maskedRun := s.recs.maskedRun.set l (maskedRunAfter s.recs.maskedRun[l] status) } } := .of_parts
  exact hset.trans (Judging.ite (judging_moveCond ..) (.ite (judging_moveCond ..) (.refl _))).sameSchedule

theorem sameSchedule_failLearning (s : State) (l : LineId) (cause : Cause) : SameSchedule s (s.failLearning l cause) :=
  (sameSchedule_setLearn ..).trans (judging_notify ..).sameSchedule

theorem sameSchedule_setZref (s : State) (l : LineId) (z : Option Nat) : SameSchedule s (s.setZref l z) := by
  refine { SameSchedule.refl s with lines := fun j hj => ?_ }
  have hline := line_setLineEntry s l j { s.cfg.lines[l] with zref := z }
  change ((s.setLineEntry l { s.cfg.lines[l] with zref := z }).line j).state ≠ .off
  rw [hline]
  split
  · next hjl => subst hjl; exact hj
  · exact hj

theorem sameSchedule_completeLearning (s : State) (l : LineId) (r : LearnRec) :
    SameSchedule s (s.completeLearning l r) := by
  unfold State.completeLearning
  split
  · exact (sameSchedule_setZref ..).trans ((judging_emptyRef ..).sameSchedule.trans
      ((sameSchedule_setLearn ..).trans (judging_notify ..).sameSchedule))
  · exact sameSchedule_failLearning ..

theorem sameSchedule_learnWaits (s : State) (l : LineId) (r : LearnRec) : SameSchedule s (s.learnWaits l r) := by
  unfold State.learnWaits
  split
  · exact sameSchedule_failLearning ..
  · exact sameSchedule_setLearn ..

theorem sameSchedule_handLearn (s : State) (l : LineId) (res : LineResult) : SameSchedule s (s.handLearn l res) := by
  unfold State.handLearn
  split
  · exact .refl s
  · dsimp only
    split
    · exact sameSchedule_failLearning ..
    · exact sameSchedule_failLearning ..
    · exact sameSchedule_failLearning ..
    · split
      · exact sameSchedule_completeLearning ..
      · exact sameSchedule_learnWaits ..
    · exact sameSchedule_learnWaits ..

theorem sameSchedule_markAmp (s : State) (a : AmpId) (forced : Bool) : SameSchedule s (s.markAmp a forced) := by
  unfold State.markAmp
  split
  · exact .of_parts
  · exact .refl s

theorem sameSchedule_voteAmp (s : State) (a : AmpId) (k : AmpKind) (judged : Vote) (value : Option Nat) :
    SameSchedule s (s.voteAmp a k judged value) :=
  (sameSchedule_markAmp ..).trans (judging_vote ..).sameSchedule

theorem sameSchedule_votePilot (s : State) (a : AmpId) (r : AmpResult) : SameSchedule s (s.votePilot a r) := by
  unfold State.votePilot
  split
  · exact (sameSchedule_voteAmp ..).trans (sameSchedule_voteAmp ..)
  · exact .refl s

theorem sameSchedule_voteFreq (s : State) (a : AmpId) (r : AmpResult) : SameSchedule s (s.voteFreq a r) := by
  unfold State.voteFreq
  split
  · exact .refl s
  · split
    · exact .refl s
    · split
      · exact (judging_setFirstCount ..).sameSchedule
      · exact sameSchedule_voteAmp ..

/-- A completed measurement, its free report still to come, looks the same to the agreement but that LCONV is IDLE. -/
theorem complete_released (s : State) (m : Meas) (th su : Bool) :
    ∃ u, SameSchedule s u ∧ s.complete m th su = u.releaseLconv := by
  unfold State.complete
  split
  · next l hl =>
    have hset : ∀ r, SameSchedule s (s.setLineRes l r) := fun _ => .of_parts
    exact ⟨_, (hset _).trans ((sameSchedule_enterMinMax ..).trans ((judging_voteLine ..).sameSchedule.trans
      ((sameSchedule_moveDegraded ..).trans (sameSchedule_handLearn ..)))), rfl⟩
  · next a ha =>
    have hset : ∀ r, SameSchedule s (s.setAmpRes a r) := fun _ => .of_parts
    exact ⟨_, (hset _).trans ((sameSchedule_votePilot ..).trans ((sameSchedule_voteFreq ..).trans
      ((sameSchedule_voteAmp ..).trans (sameSchedule_voteAmp ..)))), rfl⟩
  · have hset : ∀ r, SameSchedule s { s with recs := { s.recs with refRes := r } } := fun _ => .of_parts
    exact ⟨_, (hset _).trans (judging_vote ..).sameSchedule, rfl⟩

theorem scheduled_endSampleBlock {s : State} {m0 : Meas} (m : Meas) (th su : Bool) (order : RaceOrder) (h : Scheduled s)
    (hm : s.lconv = some m0) (hsub : m.subject = m0.subject) : Scheduled (s.endSampleBlock m th su order) := by
  unfold State.endSampleBlock
  split
  · obtain ⟨u, hu, heq⟩ := complete_released s m th su
    rw [heq]
    exact scheduled_released h hu order
  · exact scheduled_congr h (sameSchedule_lconv hm hsub)

theorem subject_sampleBlock (s : State) (m : Meas) (v i prog : Nat) : (s.sampleBlock m v i prog).subject = m.subject := by
  unfold State.sampleBlock
  dsimp only
  split <;> rfl

/-- The start of a round out of PERIOD-WAIT: LCONV was IDLE, so EBRG waits for nothing (R61, R64). -/
theorem scheduled_startRound {s : State} (h : Scheduled s) (hw : s.seq.state = .periodWait) : Scheduled s.startRound := by
  obtain ⟨hboot, -, hok, hfits⟩ := (scheduled_iff s).mp h
  have hnone : s.lconv = none :=
    Option.not_isSome_iff_eq_none.mp fun hl => absurd ((h.granted_iff.mpr hl).symm.trans hw) (by decide)
  have hphase : s.boot.phase ≠ .starting := fun hst => absurd ((h.stopped_iff.mpr hst).symm.trans hw) (by decide)
  obtain ⟨hgrant, hmeet⟩ := grantOk_of_fresh s.startRound .ref _ _ rfl rfl trivial
  exact (scheduled_iff _).mpr
    ⟨⟨⟨nofun, fun hst => absurd hst hphase⟩, hboot.running_powered, hboot.awaited_running, hboot.loading_starting⟩,
      hgrant, ⟨hok.starting_idle, hok.chosen_not_off, hok.supervised⟩,
      ⟨hmeet, fun l hl => absurd (hfits.waiting_measured l hl) (lineInFlight_of_none hnone l)⟩⟩

/-! ### EBRG's tests -/

theorem sameSchedule_setEarthRes (s : State) (l : LineId) (r : EarthResult) : SameSchedule s (s.setEarthRes l r) :=
  .of_parts

theorem sameSchedule_voteEarth (s : State) (l : LineId) (res : EarthResult) : SameSchedule s (s.voteEarth l res) := by
  unfold State.voteEarth
  split
  · dsimp only
    split
    · exact (sameSchedule_setEarthRes ..).trans (judging_vote ..).sameSchedule
    · exact (judging_vote ..).sameSchedule
  · exact .refl s

/-- A test that ends makes room for the next choice (R80, R83, R85). -/
theorem scheduled_next_choice {s u : State} (h : Scheduled s) (k : SameSchedule (s.setMode .idle) u) :
    Scheduled u.choose := by
  obtain ⟨hboot, hgrant, -, -⟩ := (scheduled_iff s).mp h
  have hidle : Scheduled (s.setMode .idle) := (scheduled_iff _).mpr
    ⟨hboot.withEbrg _, hgrant.withEbrg _, bridgeOk_idle _ rfl, bridgeFits_idle _ rfl⟩
  obtain ⟨hb, hg, -, -⟩ := (scheduled_iff u).mp (scheduled_congr hidle k)
  exact scheduled_choose hb hg

theorem scheduled_endSoak {s : State} (t : EarthTest) (bias : Nat) (h : Scheduled s) (hm : s.ebrg.mode = .soaking t) :
    Scheduled (s.endSoak t bias) := by
  let u : State := { s with ebrg := { s.ebrg with lastBias := some bias } }
  have hset : SameSchedule s u := { SameSchedule.refl s with }
  unfold State.endSoak
  dsimp only
  split
  · have hvote := judging_vote u (.dev .bridge) .clean none
    refine scheduled_congr h (hset.trans (hvote.sameSchedule.trans (sameSchedule_setMode _ _ ?_ ?_)))
    · rw [hvote.ebrg, show u.ebrg.mode = .soaking t from hm]; rfl
    · rw [hvote.ebrg, show u.ebrg.mode = .soaking t from hm]; rfl
  · exact scheduled_next_choice (scheduled_congr h hset)
      ((sameSchedule_setEarthRes ..).trans (judging_vote ..).sameSchedule)

theorem scheduled_endLeakageBlock {s : State} {t0 : EarthTest} (t : EarthTest) (h : Scheduled s)
    (hm : s.ebrg.mode = .measuring t0) (hl : t.line = t0.line) : Scheduled (s.endLeakageBlock t) := by
  unfold State.endLeakageBlock
  split
  · exact scheduled_next_choice (scheduled_congr h ((sameSchedule_setEarthRes ..).trans (sameSchedule_voteEarth ..)))
      (.refl _)
  · refine scheduled_congr h (sameSchedule_setMode s _ ?_ ?_)
    · rw [hm]; exact congrArg some hl
    · rw [hm]; exact congrArg some hl

/-! ## Every command -/

/-- The agreement passes to the next state of a command. -/
theorem scheduled_next {s t : State} (h : (.next s : Host.Outcome State Fault Refusal) = .next t) (hs : Scheduled s) :
    Scheduled t := by
  cases h
  exact hs

/-- A request without operands. -/
theorem scheduled_plain {s : State} {p : Port} {dest kind : Byte} {payload : List Byte}
    {act : State → State × Answer} (h : Scheduled s) (hact : ∀ u, Scheduled u → Keeps (act u)) :
    Scheduled (s.deliverUnit p dest kind payload fun u => noPayload payload u act) :=
  scheduled_deliverUnit p dest kind payload h fun u hu => keeps_noPayload payload hu (hact u hu)

/-- A request whose payload parses into `α`. -/
theorem scheduled_parsed {α : Type} {s : State} {p : Port} {dest kind : Byte} {payload : List Byte} {x : Option α}
    {act : α → State → State × Answer} (h : Scheduled s) (hact : ∀ c u, Scheduled u → Keeps (act c u)) :
    Scheduled (s.deliverUnit p dest kind payload fun u => parsed x u act) :=
  scheduled_deliverUnit p dest kind payload h fun u hu => keeps_parsed x hu fun c => hact c u hu

/-- Every command keeps the agreement. -/
theorem exec_scheduled (c : Instr) {s t : State} (h : Scheduled s) (hexec : exec c s = .next t) : Scheduled t := by
  have wait : ∀ n, Scheduled (s.waitUntil n) := fun n => scheduled_congr h (sameSchedule_waitUntil s n)
  cases c with
  | identify p dest pl | readDevice p dest pl | readSummary p dest pl | readScan p dest pl | readOutputs p dest pl =>
    exact scheduled_next hexec (scheduled_plain h fun u hu => keeps_reading hu _)
  | readLine p dest pl | readAmp p dest pl | readProfile p dest pl =>
    exact scheduled_next hexec (scheduled_parsed h fun _ u hu => keeps_reading hu _)
  | status p dest pl =>
    exact scheduled_next hexec (scheduled_plain h fun u hu => keeps_full (scheduled_congr hu .of_parts) _ _)
  | poll p dest pl =>
    exact scheduled_next hexec (scheduled_parsed h fun m u hu => keeps_pollAct m hu)
  | setLine p dest pl order =>
    exact scheduled_next hexec (scheduled_parsed h fun c u hu => keeps_setLineAct order c hu)
  | setAmp p dest pl order =>
    exact scheduled_next hexec (scheduled_parsed h fun c u hu => keeps_full (scheduled_applySetAmp c order hu) _ _)
  | setAmpWide p dest pl =>
    exact scheduled_next hexec (scheduled_parsed h fun c u hu =>
      keeps_full (scheduled_congr hu (sameSchedule_applySetAmpWide c u)) _ _)
  | setProfile p dest pl =>
    exact scheduled_next hexec (scheduled_parsed h fun c u hu =>
      keeps_full (scheduled_congr hu (sameSchedule_applySetProfile c u)) _ _)
  | setLevels p dest pl | setGroups p dest pl =>
    exact scheduled_next hexec (scheduled_parsed h fun c u hu => keeps_full (scheduled_congr hu .of_parts) _ _)
  | setScan p dest pl =>
    exact scheduled_next hexec (scheduled_parsed h fun c u hu =>
      keeps_full (scheduled_congr hu (sameSchedule_applySetScan c u)) _ _)
  | setPilot p dest pl order =>
    exact scheduled_next hexec (scheduled_parsed h fun c u hu =>
      keeps_full (scheduled_applySetPilot c.1 order hu) _ _)
  | setEarth p dest pl =>
    exact scheduled_next hexec (scheduled_parsed h fun c u hu => keeps_full (scheduled_applySetEarth c hu) _ _)
  | setOutput p dest pl =>
    exact scheduled_next hexec (scheduled_parsed h fun c u hu =>
      keeps_full (scheduled_congr hu (sameSchedule_applySetOutput c u)) _ _)
  | learn p dest pl =>
    exact scheduled_next hexec (scheduled_parsed h fun c u hu => keeps_learnAct c hu)
  | abortLearn p dest pl =>
    exact scheduled_next hexec (scheduled_parsed h fun l u hu => keeps_abortLearnAct l hu)
  | testInject p dest pl =>
    exact scheduled_next hexec (scheduled_parsed h fun c u hu => keeps_testInjectAct c hu)
  | clearLatch p dest pl =>
    exact scheduled_next hexec (scheduled_deliverAny _ _ _ _ h fun u hu =>
      keeps_parsed _ hu fun xs => keeps_clearLatchAct xs hu)
  | clearMinmax p dest pl =>
    exact scheduled_next hexec (scheduled_parsed h fun ls u hu => keeps_clearMinmaxAct ls hu)
  | emergency p dest pl =>
    exact scheduled_next hexec (scheduled_deliverAny _ _ _ _ h fun u hu =>
      keeps_parsed _ hu fun zs => keeps_emergencyAct zs hu)
  | freeze p dest pl =>
    exact scheduled_next hexec (scheduled_deliverAny _ _ _ _ h fun u hu =>
      keeps_noPayload _ hu (keeps_full (scheduled_congr hu .of_parts) _ _))
  | unfreeze p dest pl =>
    exact scheduled_next hexec (scheduled_deliverAny _ _ _ _ h fun u hu =>
      keeps_noPayload _ hu (keeps_bare (scheduled_congr hu .of_parts) _))
  | saveImage p dest pl =>
    exact scheduled_next hexec (scheduled_plain h fun u hu => keeps_saveImageAct hu)
  | restart p dest pl =>
    exact scheduled_next hexec (scheduled_deliver _ _ _ _ h
      (fun u hu hrun => keeps_noPayload _ hu (keeps_restartUnitAct hu (hrun.resolve_right (by decide))))
      fun u hu hrun => scheduled_restartMultiAct _ hu hrun)
  | unknownKind p dest kind pl =>
    refine scheduled_next hexec ?_
    split
    · exact h
    · exact scheduled_deliverUnit _ _ _ _ h fun u hu => keeps_bare hu _
  | frameDropped p why =>
    refine scheduled_next hexec ?_
    split
    · exact scheduled_congr h (sameSchedule_dropFrame s p)
    · exact h
  | frameGapTimeout p =>
    refine scheduled_next hexec ?_
    split
    · exact scheduled_congr h (sameSchedule_dropFrame s p)
    · exact h
  | receiveOverrun p dest kind =>
    refine scheduled_next hexec ?_
    split
    · exact scheduled_congr h (sameSchedule_dropFrame s p)
    · exact h
  | frameStart p =>
    refine scheduled_next hexec ?_
    split
    · exact scheduled_congr h (sameSchedule_setPort s p _ rfl)
    · exact h
  | frameIgnored p dest kind =>
    refine scheduled_next hexec ?_
    split
    · exact scheduled_congr h (sameSchedule_hunt s p)
    · exact h
  | replyBegin p =>
    refine scheduled_next hexec ?_
    split
    · next f hf =>
      split
      · exact h
      · refine scheduled_congr (wait (f.takenAt + Config.replyDelayTicks)) ?_
        cases p <;> exact sameSchedule_replyBegin _ _ f hf
    · exact h
  | replySent p =>
    refine scheduled_next hexec ?_
    split
    · next f hf => exact scheduled_replySent p h f hf
    · exact h
  | softRestart =>
    refine scheduled_next hexec ?_
    split
    · next k hk => exact scheduled_softRestart k h (h.awaited_running (by simp [State.restartAwaited, hk]))
    · exact h
  | powerOn => exact scheduled_next hexec (scheduled_hardStop s _)
  | powerLoss => exact scheduled_next hexec (scheduled_hardStop s _)
  | pinReset =>
    refine scheduled_next hexec ?_
    split
    · exact h
    · exact scheduled_hardStop s _
  | resetRelease addr baud source =>
    refine scheduled_next hexec ?_
    split
    · next cause hp => exact scheduled_release cause _ h (by simp [State.poweredUp, hp])
    · exact h
    · exact h
  | loadStepEnd ack =>
    refine scheduled_next hexec ?_
    split
    · next cause hp _ => exact scheduled_finishLoad s cause _ (by simp [State.poweredUp, hp])
    · exact h
  | imageWriteEnd ack readBack =>
    refine scheduled_next hexec ?_
    split
    · split
      · exact scheduled_congr h (sameSchedule_saveDone s _)
      · exact scheduled_congr h (sameSchedule_saveFailed s _)
    · exact h
  | evacPinChange low =>
    refine scheduled_next hexec ?_
    split
    · exact h
    · exact scheduled_congr h .of_parts
  | evacFilterExpiry =>
    refine scheduled_next hexec ?_
    split
    · exact scheduled_congr (wait _) (sameSchedule_filterEvac _)
    · exact h
  | settleBlockEnd =>
    refine scheduled_next hexec ?_
    split
    · next m hm =>
      split
      · exact h
      · exact scheduled_congr (wait _) (sameSchedule_lconv (m := m) hm rfl)
    · exact h
  | sampleBlockEnd v i prog th su order =>
    refine scheduled_next hexec ?_
    split
    · next m hm =>
      split
      · exact scheduled_endSampleBlock (m0 := m) _ th su order (wait _) hm (subject_sampleBlock ..)
      · exact h
    · exact h
  | periodCountComplete count =>
    refine scheduled_next hexec ?_
    split
    · next m hm =>
      split
      · split
        · exact scheduled_congr (wait _) (sameSchedule_lconv (m := m) hm rfl)
        · exact h
      all_goals exact h
    · exact h
  | periodCountGiveUp =>
    refine scheduled_next hexec ?_
    split
    · next m hm =>
      split
      · exact scheduled_congr (wait _) (sameSchedule_lconv (m := m) hm rfl)
      all_goals exact h
    · exact h
  | periodWaitExpiry =>
    refine scheduled_next hexec ?_
    split
    · next hw => exact scheduled_startRound (wait _) hw
    · exact h
  | soakEnd bias =>
    refine scheduled_next hexec ?_
    split
    · next t ht => exact scheduled_endSoak t _ (wait _) ht
    all_goals exact h
  | leakageBlockEnd code =>
    refine scheduled_next hexec ?_
    split
    · next t ht => exact scheduled_endLeakageBlock (t0 := t) _ (wait _) ht rfl
    all_goals exact h
  | pulsePhaseExpiry o =>
    refine scheduled_next hexec ?_
    split
    · exact scheduled_congr h .of_parts
    · exact h
  | freezeExpiry =>
    refine scheduled_next hexec ?_
    split
    · exact scheduled_congr h .of_parts
    · exact h

/-- Settles O5, an inductive invariant: the agreement in four parts (BootOk, GrantOk, BridgeOk, BridgeFits), each act of an
engine tied to the parts it brings, and every other command shown to leave what the agreement looks at. -/
theorem stepKeepsScheduling : Obligations.StepKeepsScheduling := by
  unfold Obligations.StepKeepsScheduling
  intro s t h hstep
  unfold step at hstep
  split at hstep
  · exact scheduled_next hstep (scheduled_congr h .of_parts)
  · exact exec_scheduled _ (scheduled_congr h .of_parts) hstep

end Sys2Proof.Machine.Converter
end

section
/-! SUPPORT. The four record reads: a read changes nothing but its port, and the sets of kinds of READ-SUMMARY hold the
bits of Table 10.5. -/

namespace Sys2Proof.Machine.Converter

/-- A record read that a running part takes is answered DONE with what it reports, says in the view byte whether the
frozen view is in force, and changes nothing but its port. -/
theorem deliverUnit_recordRead {s : State} {p : Port} {dest kind : Byte} {payload : List Byte}
    {unit : State → State × Answer} (c : State → Content) (h : s.takes p dest) (hkind : frozenKind kind = true)
    (hlen : payload.length ≤ 200) (hunit : unit (s.hunt p) = reading c (s.hunt p)) (hc : c (s.hunt p) = c s) :
    s.deliverUnit p dest kind payload unit
      = s.answered p kind { status := .done, view := s.view, content := c s } none := by
  have hview : (s.hunt p).viewFor kind = s.view := by cases p <;> simp only [State.viewFor, hkind, Bool.true_and] <;> rfl
  unfold State.deliverUnit
  rw [State.deliver_of_takes s p dest kind payload unit id h hlen, hunit, hview]
  exact (s.holdFrame_hunt p kind _ _).trans (by rw [← hc]; rfl)

theorem oneByteSelector_ofNat {size : Nat} (i : Fin size) (h : size ≤ 256) :
    oneByteSelector [BitVec.ofNat 8 i.val] size = some i := by
  have hmod : i.val % 256 = i.val := Nat.mod_eq_of_lt (i.isLt.trans_le h)
  simp [oneByteSelector, hmod]

theorem foldl_kindBits (ids : List CondId) (x : BitVec 16) (n : Nat) :
    (ids.foldl (fun x id => x ||| BitVec.twoPow 16 id.kind.code) x).getLsbD n = true
      ↔ x.getLsbD n = true ∨ ∃ id ∈ ids, id.kind.code = n := by
  induction ids generalizing x with
  | nil => simp
  | cons id ids ih =>
    have hcode : id.kind.code < 16 := id.kind.index.isLt.trans (by decide)
    rw [List.foldl_cons, ih]
    simp only [BitVec.getLsbD_or, BitVec.getLsbD_twoPow, Bool.or_eq_true, Bool.and_eq_true, decide_eq_true_eq, hcode,
      true_and, List.exists_mem_cons_iff, or_assoc]

/-- Bit n of a set of kinds stands for the kind with the code n (Table 10.5). -/
theorem getLsbD_kindBits (ids : List CondId) (n : Nat) :
    (kindBits ids).getLsbD n = true ↔ ∃ id ∈ ids, id.kind.code = n := by
  simp [kindBits, foldl_kindBits]

/-- Bit n of the set of the kinds that pass a test. -/
theorem getLsbD_kindBits_filter (ids : List CondId) (q : CondId → Bool) (n : Nat) :
    (kindBits (ids.filter q)).getLsbD n = true ↔ ∃ id ∈ ids, id.kind.code = n ∧ q id = true := by
  rw [getLsbD_kindBits]
  refine exists_congr fun id => ?_
  rw [List.mem_filter]
  tauto

theorem testReport_of_mode (m : EbrgMode) (now : Nat) :
    (m.test.map fun t => testReport t now)
      = match m with
        | .soaking t | .measuring t => some
            { soakMs := t.soak.ms, ne := t.ne, elapsedMs := (now - t.biasOn) / 24576, blocks := t.blocks }
        | .idle | .waiting _ => none := by
  cases m <;> rfl

/-- Settles O24: each of the four reads is a reading of the served records, and the summary's bits are those of
`kindBits`. -/
theorem recordReadsAreServed : Obligations.RecordReadsAreServed := by
  unfold Obligations.RecordReadsAreServed
  intro s p dest h
  refine ⟨fun l => ?_, fun a => ?_, ?_, ?_, by decide, fun x => ⟨rfl, rfl, fun n => ⟨?_, ?_⟩⟩⟩
  · exact congrArg Host.Outcome.next (deliverUnit_recordRead (fun s => .line (lineReport s l)) h (by decide) (by simp)
      (by rw [oneByteSelector_ofNat l (by decide)]; rfl) (by cases p <;> rfl))
  · exact congrArg Host.Outcome.next (deliverUnit_recordRead (fun s => .amp (ampReport s a)) h (by decide) (by simp)
      (by rw [oneByteSelector_ofNat a (by decide)]; rfl) (by cases p <;> rfl))
  · refine (congrArg Host.Outcome.next (deliverUnit_recordRead (fun s => .device (deviceReport s)) h (by decide) (by simp)
      rfl (by cases p <;> rfl))).trans ?_
    unfold deviceReport
    rw [testReport_of_mode]
    rfl
  · exact congrArg Host.Outcome.next (deliverUnit_recordRead (fun s => .summary (summaryEntries s)) h (by decide)
      (by simp) rfl (by cases p <;> rfl))
  · refine (getLsbD_kindBits_filter ..).trans ?_
    simp only [decide_eq_true_eq]
    rfl
  · exact getLsbD_kindBits_filter ..

end Sys2Proof.Machine.Converter
end

section
/-! SUPPORT. The blocks and the period counter of LCONV: what a settle block and a sample block make of the measurement
in flight, and the obligation that nothing else moves before the last sample block. -/

namespace Sys2Proof.Machine.Converter

theorem isMasked_line (s : State) (l : LineId) (prog : Nat) :
    s.isMasked (.line l) prog = decide ((s.lineProfile l).maskLevel < prog) := rfl

theorem isMasked_amp (s : State) (a : AmpId) (prog : Nat) :
    s.isMasked (.amp a) prog = decide (s.cfg.profiles[(0 : ProfileId)].maskLevel < prog) := rfl

theorem isMasked_ref (s : State) (prog : Nat) : s.isMasked .ref prog = false := rfl

/-- The sums of a measurement after a sample block (R24, R25). -/
theorem sampleBlock_eq (s : State) (m : Meas) (v i prog : Nat) :
    s.sampleBlock m v i prog
      = { m.withBlock (s.isMasked m.subject prog) v i with
          sampled := m.sampled + 1, blockStart := s.blockDue m, counter := m.counter.afterBlock } := by
  unfold State.sampleBlock Meas.withBlock
  cases s.isMasked m.subject prog <;> simp [Bool.or_assoc]

/-- A sample block that ends while LCONV is SAMPLING enters the measurement, which completes at its N-th (R25, R27). -/
theorem exec_sampleBlockEnd {s : State} {m : Meas} (v i prog : Code) (th su : Bool) (order : RaceOrder)
    (hm : s.lconv = some m) (hs : m.settle ≤ m.settled) :
    exec (.sampleBlockEnd v i prog th su order) s
      = .next ((s.waitUntil (s.blockDue m)).endSampleBlock (s.sampleBlock m v.val i.val prog.val) th su order) := by
  change execSampleBlockEnd v i prog th su order s = _
  simp only [execSampleBlockEnd, hm, Meas.isSampling, hs, decide_true, if_true]

theorem exec_settleBlockEnd {s : State} {m : Meas} (hm : s.lconv = some m) (hs : m.settled < m.settle) :
    exec .settleBlockEnd s = .next { s.waitUntil (s.blockDue m) with lconv := some (s.settleBlock m) } := by
  change execSettleBlockEnd s = _
  simp only [execSettleBlockEnd, hm, Meas.isSampling, Nat.not_le.mpr hs, decide_false, Bool.false_eq_true, if_false]

/-- Settles O51, a case each for a settle block, a sample block before the last, and the two ends of the counter. -/
theorem blocksAccumulate : Obligations.BlocksAccumulate := by
  unfold Obligations.BlocksAccumulate
  intro s m hm
  refine ⟨fun hs => ?_, fun v i prog th su order hs hn => ?_, fun since hrun => ⟨fun count hcount => ?_, ?_⟩⟩
  · rw [exec_settleBlockEnd hm hs]
    have hlast : m.settle ≤ m.settled + 1 ↔ m.settled + 1 = m.settle := by omega
    simp only [State.settleBlock, hlast]
    cases m.subject <;> rfl
  · have hgoes : ¬(s.sampleBlock m v.val i.val prog.val).sample ≤ (s.sampleBlock m v.val i.val prog.val).sampled := by
      rw [sampleBlock_eq]
      unfold Meas.withBlock
      split <;> exact Nat.not_le.mpr hn
    rw [exec_sampleBlockEnd v i prog th su order hm hs, State.endSampleBlock, if_neg hgoes, sampleBlock_eq]
    have hcounter : m.counter.afterBlock = match m.counter with | .running _ => .gaveUp | x => x := by
      cases m.counter <;> rfl
    rw [hcounter]
    have hwith : ∀ masked, m.withBlock masked v.val i.val
        = { m with
            sumV := if masked then m.sumV else m.sumV + v.val
            sumI := if masked then m.sumI else m.sumI + i.val
            v := if masked then m.v else m.v + 1
            clipped := m.clipped || (!masked && (decide (v.val = 4095) || decide (i.val = 4095))) } := by
      intro masked
      cases masked <;> simp [Meas.withBlock]
    rw [hwith]
    cases hsub : m.subject <;> simp only [isMasked_line, isMasked_amp, isMasked_ref] <;> rfl
  · change execPeriodCountComplete count s = _
    simp only [execPeriodCountComplete, hm, hrun, State.counterLimit, hcount, if_true]
    rfl
  · change execPeriodCountGiveUp s = _
    simp only [execPeriodCountGiveUp, hm, hrun]
    rfl

end Sys2Proof.Machine.Converter
end

section
/-! SUPPORT. The free report of LCONV: its two acts in the words of the statements, what it can end in, and that it does
not look at the ports. -/

namespace Sys2Proof.Machine.Converter

/-! ## The two acts of a free report (R69, R82) -/

theorem earthRetry_eq_bridgeRetried (s : State) : s.earthRetry = s.bridgeRetried := by
  unfold State.earthRetry State.bridgeRetried
  cases hm : s.ebrg.mode with
  | waiting l =>
    unfold State.startTest
    dsimp only
    split
    · rw [State.setMode, ← hm]
    · rfl
  | idle | soaking | measuring => rfl

theorem freeReport_eq_freeReported (s : State) (order : RaceOrder) : s.freeReport order = s.freeReported order := by
  cases order <;> simp only [State.freeReport, State.freeReported, earthRetry_eq_bridgeRetried]

/-- From `s` to `t` only what a free report may write has been written: LCONV, SEQ, EBRG, the outputs' start counts and the
ring. -/
structure ReportFrame (s t : State) : Prop where
  eq : t = { s with
    lconv := t.lconv, seq := t.seq, ebrg := t.ebrg, fout := t.fout, cfg := { s.cfg with ring := t.cfg.ring } }

theorem ReportFrame.trans {s t u : State} (h : ReportFrame s t) (k : ReportFrame t u) : ReportFrame s u :=
  ⟨k.eq.trans (by rw [h.eq])⟩

section
variable {s t : State}

theorem ReportFrame.clock (h : ReportFrame s t) : t.clock = s.clock := by rw [h.eq]
theorem ReportFrame.power (h : ReportFrame s t) : t.power = s.power := by rw [h.eq]
theorem ReportFrame.boot (h : ReportFrame s t) : t.boot = s.boot := by rw [h.eq]
theorem ReportFrame.straps (h : ReportFrame s t) : t.straps = s.straps := by rw [h.eq]
theorem ReportFrame.zones (h : ReportFrame s t) : t.zones = s.zones := by rw [h.eq]
theorem ReportFrame.evac (h : ReportFrame s t) : t.evac = s.evac := by rw [h.eq]
theorem ReportFrame.pilotOn (h : ReportFrame s t) : t.pilotOn = s.pilotOn := by rw [h.eq]
theorem ReportFrame.recs (h : ReportFrame s t) : t.recs = s.recs := by rw [h.eq]
theorem ReportFrame.firstCount (h : ReportFrame s t) : t.firstCount = s.firstCount := by rw [h.eq]
theorem ReportFrame.learn (h : ReportFrame s t) : t.learn = s.learn := by rw [h.eq]
theorem ReportFrame.nq (h : ReportFrame s t) : t.nq = s.nq := by rw [h.eq]
theorem ReportFrame.link (h : ReportFrame s t) : t.link = s.link := by rw [h.eq]
theorem ReportFrame.memory (h : ReportFrame s t) : t.memory = s.memory := by rw [h.eq]
theorem ReportFrame.freeCount (h : ReportFrame s t) : t.freeCount = s.freeCount := by rw [h.eq]
theorem ReportFrame.pending (h : ReportFrame s t) : t.pending = s.pending := by rw [h.eq]
theorem ReportFrame.cfg (h : ReportFrame s t) : t.cfg = { s.cfg with ring := t.cfg.ring } := by rw [h.eq]

end

theorem ReportFrame.rest {s t : State} (h : ReportFrame s t) (hl : s.lconv = none) :
    s = { t with lconv := none, seq := s.seq, ebrg := s.ebrg, fout := s.fout, cfg := { t.cfg with ring := s.cfg.ring } } := by
  rw [h.eq, ← hl]

theorem Decided.reportFrame {s t : State} (h : Decided s t) : ReportFrame s t := ⟨by rw [h.frame]⟩

theorem grantDecision_reportFrame (s : State) : ReportFrame s s.grantDecision := by
  by_cases hg : s.seq.state = .granted
  · exact (grantDecision_decided s hg).reportFrame
  · rw [grantDecision_ungranted s hg]; exact ⟨rfl⟩

theorem earthRetry_reportFrame (s : State) : ReportFrame s s.earthRetry := by
  obtain ⟨m, heq, -⟩ := earthRetry_cases s
  rw [heq]
  exact ⟨rfl⟩

theorem freeReport_frame (s : State) (order : RaceOrder) : ReportFrame s (s.freeReport order) := by
  cases order with
  | earthFirst => exact (earthRetry_reportFrame s).trans (grantDecision_reportFrame _)
  | seqFirst => exact (grantDecision_reportFrame s).trans (earthRetry_reportFrame _)

/-- What the grant decision of an IDLE LCONV leaves in LCONV and SEQ, as it stood before in `seq`. -/
def GrantOutcome (scan : ScanSettings) (now : Nat) (seq : Seq) (t : State) : Prop :=
  if seq.state = .granted then
    (∃ x, t.lconv = some (Meas.fresh x scan now) ∧ t.seq.state = .granted) ∨ (t.lconv = none ∧ t.seq.state = .periodWait)
  else t.lconv = none ∧ t.seq.state = seq.state

theorem grantDecision_outcome {s : State} (hl : s.lconv = none) :
    GrantOutcome s.cfg.scan s.clock s.seq s.grantDecision := by
  unfold GrantOutcome
  split
  · next hg =>
    obtain ⟨-, ⟨x, hx, hst, -⟩ | ⟨hnone, hst⟩⟩ := grantDecision_decided s hg
    · exact .inl ⟨x, hx, hst⟩
    · exact .inr ⟨hnone.trans hl, hst⟩
  · next hg => rw [grantDecision_ungranted s hg]; exact ⟨hl, rfl⟩

/-- EBRG acts for itself: whichever of the two acts comes first, the free report grants what a grant decision grants. -/
theorem freeReport_outcome {s : State} (hl : s.lconv = none) (order : RaceOrder) :
    GrantOutcome s.cfg.scan s.clock s.seq (s.freeReport order) := by
  cases order with
  | earthFirst =>
    obtain ⟨m, heq, -⟩ := earthRetry_cases s
    change GrantOutcome _ _ _ s.earthRetry.grantDecision
    rw [heq]
    exact grantDecision_outcome (s := s.setMode m) hl
  | seqFirst =>
    have h := grantDecision_outcome hl
    change GrantOutcome _ _ _ s.grantDecision.earthRetry
    rw [earthRetry_frame]
    exact h

theorem freeReport_ebrg {s : State} (h : ∀ l, s.ebrg.mode ≠ .waiting l) (order : RaceOrder) :
    (s.freeReport order).ebrg = s.ebrg := by
  have hgrant : ∀ u : State, u.grantDecision.ebrg = u.ebrg := fun u => by rw [grantDecision_frame]
  cases order with
  | earthFirst => exact (hgrant _).trans (by rw [earthRetry_of_not_waiting s h])
  | seqFirst =>
    change s.grantDecision.earthRetry.ebrg = _
    rw [earthRetry_of_not_waiting _ (by rw [hgrant]; exact h), hgrant]

theorem freeReport_report {s : State} (hl : s.lconv = none) (order : RaceOrder) : FreeReport s (s.freeReport order) order where
  idle := hl
  rest := (freeReport_frame s order).rest hl
  reported := freeReport_eq_freeReported s order

/-! ## A free report and the ports -/

theorem walkRing_off {e : RingEntry} (es : List RingEntry) {s : State} (h : s.isOff e.subject = true) :
    State.walkRing (e :: es) s = State.walkRing es { s with seq := s.seq.skip .passed } := if_pos h

theorem walkRing_held {e : RingEntry} (es : List RingEntry) {s : State} (h : s.isOff e.subject ≠ true)
    (hheld : s.entryHeld e = true) :
    State.walkRing (e :: es) s = State.walkRing es { s with seq := s.seq.skip .skipped } :=
  (if_neg h).trans (if_pos hheld)

theorem walkRing_grant {e : RingEntry} (es : List RingEntry) {s : State} (h : s.isOff e.subject ≠ true)
    (hheld : s.entryHeld e ≠ true) : State.walkRing (e :: es) s = s.grantSlot e :=
  (if_neg h).trans (if_neg hheld)

theorem endRound_late {s : State} (h : s.roundIsLate = true) :
    s.endRound = s.closeRound.countRoundOutputs.startRound := if_pos h

theorem endRound_early {s : State} (h : s.roundIsLate ≠ true) :
    s.endRound = { s.closeRound.countRoundOutputs with
      seq := { s.closeRound.countRoundOutputs.seq with state := .periodWait } } := if_neg h

theorem startTest_measured {s : State} {l : LineId} (h : s.lineInFlight = some l) :
    s.startTest l = s.setMode (.waiting l) := if_pos h

theorem startTest_free {s : State} {l : LineId} (h : s.lineInFlight ≠ some l) :
    s.startTest l = s.setMode (.soaking
      { line := l, soak := s.cfg.earth.soak, ne := s.cfg.earth.ne, biasOn := s.clock, blocks := 0, sumL := 0
        saturated := false, blockStart := s.clock }) := if_neg h

theorem endRound_link (s : State) (k : Link) : ({ s with link := k } : State).endRound = { s.endRound with link := k } := by
  have hlate : ({ s with link := k } : State).roundIsLate = s.roundIsLate := rfl
  by_cases h : s.roundIsLate = true
  · rw [endRound_late h, endRound_late (hlate.trans h)]; rfl
  · rw [endRound_early h, endRound_early (hlate ▸ h)]; rfl

theorem walkRing_link (es : List RingEntry) (s : State) (k : Link) :
    State.walkRing es { s with link := k } = { State.walkRing es s with link := k } := by
  induction es generalizing s with
  | nil => exact endRound_link s k
  | cons e es ih =>
    have hoff' : ({ s with link := k } : State).isOff e.subject = s.isOff e.subject := by cases e <;> rfl
    have hheld' : ({ s with link := k } : State).entryHeld e = s.entryHeld e := by cases e <;> rfl
    by_cases hoff : s.isOff e.subject = true
    · rw [walkRing_off es hoff, walkRing_off es (hoff'.trans hoff)]
      exact ih { s with seq := s.seq.skip .passed }
    · by_cases hheld : s.entryHeld e = true
      · rw [walkRing_held es hoff hheld, walkRing_held es (hoff' ▸ hoff) (hheld'.trans hheld)]
        exact ih { s with seq := s.seq.skip .skipped }
      · rw [walkRing_grant es hoff hheld, walkRing_grant es (hoff' ▸ hoff) (hheld' ▸ hheld)]
        rfl

theorem grantDecision_link (s : State) (k : Link) :
    ({ s with link := k } : State).grantDecision = { s.grantDecision with link := k } := by
  have hchoice : ({ s with link := k } : State).confirmChoice = s.confirmChoice := rfl
  unfold State.grantDecision
  by_cases hg : s.seq.state = .granted
  · rw [if_pos hg, if_pos (show _ = SeqState.granted from hg), hchoice]
    cases s.confirmChoice with
    | some e => rfl
    | none => exact walkRing_link _ s k
  · rw [if_neg hg, if_neg (show ¬_ = SeqState.granted from hg)]

theorem earthRetry_link (s : State) (k : Link) :
    ({ s with link := k } : State).earthRetry = { s.earthRetry with link := k } := by
  by_cases hw : ∃ l, s.ebrg.mode = .waiting l
  · obtain ⟨l, hl⟩ := hw
    rw [earthRetry_of_waiting s l hl, earthRetry_of_waiting { s with link := k } l hl]
    have hfly : ({ s with link := k } : State).lineInFlight = s.lineInFlight := rfl
    by_cases hf : s.lineInFlight = some l
    · rw [startTest_measured hf, startTest_measured (hfly.trans hf)]; rfl
    · rw [startTest_free hf, startTest_free (hfly ▸ hf)]; rfl
  · rw [earthRetry_of_not_waiting s (not_exists.mp hw),
      earthRetry_of_not_waiting { s with link := k } (not_exists.mp hw)]

/-- A free report looks at no port and writes none. -/
theorem freeReport_link (s : State) (order : RaceOrder) (k : Link) :
    ({ s with link := k } : State).freeReport order = { s.freeReport order with link := k } := by
  cases order with
  | earthFirst => exact (congrArg State.grantDecision (earthRetry_link s k)).trans (grantDecision_link _ k)
  | seqFirst => exact (congrArg State.earthRetry (grantDecision_link s k)).trans (earthRetry_link _ k)

end Sys2Proof.Machine.Converter
end

section
/-! SUPPORT. SET-PILOT: its payload, its three cases, and the obligation that another D abandons the measurement in
flight (R19, R20). -/

namespace Sys2Proof.Machine.Converter

theorem parseSetPilot_item (hi lo : Byte) :
    parseSetPilot [1, 2, hi, lo]
      = some (max 1100 (min 1400 (hi.toNat * 256 + lo.toNat)),
          decide (max 1100 (min 1400 (hi.toNat * 256 + lo.toNat)) ≠ hi.toNat * 256 + lo.toNat)) := by
  have hitems : parseItems setPilotItems [1, 2, hi, lo] = some [(1, [hi, lo])] := rfl
  have hvalue : itemValue [(1, [hi, lo])] 1 = some (hi.toNat * 256 + lo.toNat) := by
    simp [itemValue, findItem, bigEndian]
  simp only [parseSetPilot, hitems, Option.bind_eq_bind, Option.bind_some, numField, hvalue, clampNat]
  rfl

/-! ## The three cases of an accepted SET-PILOT -/

/-- Another D before the abandonment: D written, every amplifier re-armed, the counter advanced. -/
def pilotSet (s : State) (d : Nat) : State :=
  { s.advanced with cfg := { s.cfg with pilotD := d }, firstCount := Vector.ofFn fun _ => true }

theorem applySetPilot_same {s : State} {d : Nat} (order : RaceOrder) (h : s.cfg.pilotD = d) :
    applySetPilot d order s = s.advanced := if_pos h

theorem applySetPilot_idle {s : State} {d : Nat} (order : RaceOrder) (h : s.cfg.pilotD ≠ d) (hl : s.lconv = none) :
    applySetPilot d order s = pilotSet s d := by
  refine (if_neg h).trans (if_neg ?_)
  exact fun hsome => by simp [State.rearmAll, State.bumpCounter, hl] at hsome

theorem applySetPilot_measuring {s : State} {d : Nat} (order : RaceOrder) (h : s.cfg.pilotD ≠ d)
    (hl : s.lconv.isSome = true) :
    applySetPilot d order s = (pilotSet s d).releaseLconv.freeReport order :=
  (if_neg h).trans (if_pos hl)

theorem advanced_hunt (s : State) (p : Port) : (s.hunt p).advanced = s.advanced.hunt p := by cases p <;> rfl

theorem pilotSet_hunt (s : State) (p : Port) (d : Nat) : pilotSet (s.hunt p) d = (pilotSet s d).hunt p := by
  cases p <;> rfl

/-! ## The reply -/

/-- A taken SET-PILOT acts with the receiver hunting and is answered with the D in force and the counter after it. -/
theorem exec_setPilot {s : State} {p : Port} {dest : Byte} {payload : List Byte} {d : Nat} {clamped : Bool}
    (order : RaceOrder) (h : s.takes p dest) (hlen : payload.length ≤ 200)
    (hparse : parseSetPilot payload = some (d, clamped)) :
    exec (.setPilot p dest payload order) s
      = .next ((applySetPilot d order (s.hunt p)).holdFrame p 0x27 .live
          (.full (doneOr clamped) (.pilot (applySetPilot d order (s.hunt p)).cfg.pilotD
            (applySetPilot d order (s.hunt p)).link.changeCounter))) := by
  change Host.Outcome.next (s.deliverUnit p dest 0x27 payload fun u => parsed (parseSetPilot payload) u (setPilotAct order)) = _
  rw [hparse, State.deliverUnit, State.deliver_of_takes s p dest 0x27 payload _ id h hlen]
  rfl

/-- A port that holds a frame: only the link differs. -/
theorem holdFrame_withLink (s : State) (p : Port) (kind : Byte) (view : View) (a : Answer) :
    s.holdFrame p kind view a = { s with link := (s.holdFrame p kind view a).link } := by
  cases p <;> rfl

theorem holds_holdFrame {s : State} {p : Port} (kind : Byte) (view : View) (st : Status) (c : Content)
    (h : (s.port p).inFrame = false) :
    (s.holdFrame p kind view (.full st c)).holds p kind { status := st, view := view, content := c } := by
  cases p <;> exact ⟨h, rfl⟩

theorem sameElsewhere_trans {s t u : State} {p : Port} (h : SameElsewhere s t p) (k : SameElsewhere t u p) :
    SameElsewhere s u p where
  clock := k.clock.trans h.clock
  power := k.power.trans h.power
  straps := k.straps.trans h.straps
  pilotOn := k.pilotOn.trans h.pilotOn
  evac := k.evac.trans h.evac
  frozen := k.frozen.trans h.frozen
  freezeExpired := k.freezeExpired.trans h.freezeExpired
  port q hq := (k.port q hq).trans (h.port q hq)
  dropped := k.dropped.trans h.dropped
  memory := k.memory.trans h.memory
  freeCount := k.freeCount.trans h.freeCount
  pending := k.pending.trans h.pending

theorem sameElsewhere_holdFrame (s : State) (p : Port) (kind : Byte) (view : View) (a : Answer) :
    SameElsewhere s (s.holdFrame p kind view a) p := by
  have hport : ∀ q, q ≠ p → (s.holdFrame p kind view a).port q = s.port q := fun q hq => s.port_setPort_ne p q _ hq
  cases p <;> exact ⟨rfl, rfl, rfl, rfl, rfl, rfl, rfl, hport, rfl, rfl, rfl, rfl⟩

theorem ReportFrame.sameElsewhere {s t : State} (h : ReportFrame s t) (p : Port) : SameElsewhere s t p := by
  rw [h.eq]
  exact ⟨rfl, rfl, rfl, rfl, rfl, rfl, rfl, fun q _ => by cases q <;> rfl, by cases p <;> rfl, rfl, rfl, rfl⟩

theorem sameElsewhere_pilotSet (s : State) (p : Port) (d : Nat) :
    SameElsewhere s ((pilotSet s d).hunt p).releaseLconv p := by
  have hport : ∀ q, q ≠ p → ((pilotSet s d).hunt p).port q = s.port q := fun q hq =>
    ((pilotSet s d).port_setPort_ne p q _ hq).trans (by cases q <;> rfl)
  cases p <;> exact ⟨rfl, rfl, rfl, rfl, rfl, rfl, rfl, hport, rfl, rfl, rfl, rfl⟩

/-- What another D leaves while a measurement is in flight: the free report of an IDLE LCONV, and the reply in the port. -/
theorem setPilot_measuring {s t : State} {p : Port} {d : Nat} {order : RaceOrder} {st : Status} {c : Content}
    (ht : t = (((pilotSet s d).hunt p).releaseLconv.freeReport order).holdFrame p 0x27 .live (.full st c)) :
    FreeReport { pilotSet s d with lconv := none, link := t.link } t order
      ∧ t.holds p 0x27 { status := st, view := .live, content := c }
      ∧ t.link.changeCounter = s.counterAfter ∧ SameElsewhere s t p := by
  have hframe := freeReport_frame ((pilotSet s d).hunt p).releaseLconv order
  have hu : ({ pilotSet s d with lconv := none, link := t.link } : State)
      = { ((pilotSet s d).hunt p).releaseLconv with link := t.link } := by cases p <;> rfl
  have hreported : t = ({ pilotSet s d with lconv := none, link := t.link } : State).freeReport order := by
    rw [hu, freeReport_link, ht]
    exact holdFrame_withLink ..
  have hlink : (((pilotSet s d).hunt p).releaseLconv.freeReport order).link = ((pilotSet s d).hunt p).link := by
    rw [hframe.eq]; rfl
  refine ⟨?_, ?_, ?_, ?_⟩
  · have hrep := freeReport_report (s := { pilotSet s d with lconv := none, link := t.link }) rfl order
    rwa [← hreported] at hrep
  · rw [ht]
    refine holds_holdFrame _ _ _ _ ?_
    have hport : (((pilotSet s d).hunt p).releaseLconv.freeReport order).port p = ((pilotSet s d).hunt p).port p := by
      cases p <;> simp only [State.port, hlink]
    rw [hport]
    exact congrArg PortState.inFrame (State.port_setPort_same ..)
  · rw [ht, State.holdFrame, State.setPort_link_changeCounter, hlink]
    cases p <;> rfl
  · rw [ht]
    exact sameElsewhere_trans (sameElsewhere_pilotSet s p d)
      (sameElsewhere_trans (hframe.sameElsewhere p) (sameElsewhere_holdFrame ..))

/-- A free report in the words of the statements is the model's. -/
theorem freeReport_of_report {u t : State} {order : RaceOrder} (h : FreeReport u t order) :
    t = u.freeReport order := h.reported.trans (freeReport_eq_freeReported u order).symm

/-- What a free report leaves in LCONV and SEQ out of GRANTED: a grant with nothing ended, or no grant. -/
theorem granted_outcome {scan : ScanSettings} {now : Nat} {seq : Seq} {t : State} (h : GrantOutcome scan now seq t)
    (hg : seq.state = .granted) :
    (t.lconv.isSome = true ↔ t.seq.state = .granted) ∧ ∀ m, t.lconv = some m → m = Meas.fresh m.subject scan now := by
  unfold GrantOutcome at h
  rw [if_pos hg] at h
  obtain ⟨x, hx, hst⟩ | ⟨hnone, hst⟩ := h
  · refine ⟨by simp [hx, hst], fun m hm => ?_⟩
    cases hx.symm.trans hm
    rfl
  · exact ⟨by simp [hnone, hst], fun m hm => by cases hnone.symm.trans hm⟩

/-- Settles O37: the D in force, another D with LCONV IDLE, and another D with a measurement in flight, whose abandonment is
the free report of an IDLE LCONV. -/
theorem setPilotAbandonsTheMeasurement : Obligations.SetPilotAbandonsTheMeasurement := by
  unfold Obligations.SetPilotAbandonsTheMeasurement
  intro s p dest hi lo order htakes x d reply set
  have hexec := exec_setPilot order htakes (by simp) (parseSetPilot_item hi lo)
  have hstatus : doneOr (decide (d ≠ x)) = reply.status := by
    by_cases h : d = x <;> simp [doneOr, reply, h]
  change exec _ s = .next (State.holdFrame (applySetPilot d order (s.hunt p)) p 0x27 .live (.full (doneOr (decide (d ≠ x)))
    (.pilot (applySetPilot d order (s.hunt p)).cfg.pilotD (applySetPilot d order (s.hunt p)).link.changeCounter))) at hexec
  rw [hstatus] at hexec
  have hcfg : (s.hunt p).cfg = s.cfg := by cases p <;> rfl
  have hlconv : (s.hunt p).lconv = s.lconv := by cases p <;> rfl
  have hmeasuring : d ≠ s.cfg.pilotD → s.lconv.isSome = true →
      ∃ t, exec (.setPilot p dest [1, 2, hi, lo] order) s = .next t
        ∧ FreeReport { pilotSet s d with lconv := none, link := t.link } t order ∧ t.holds p 0x27 reply
        ∧ t.link.changeCounter = s.counterAfter ∧ SameElsewhere s t p := by
    intro hd hl
    rw [applySetPilot_measuring order (by rw [hcfg]; exact hd.symm) (by rw [hlconv]; exact hl), pilotSet_hunt] at hexec
    have hframe := freeReport_frame ((pilotSet s d).hunt p).releaseLconv order
    have hcontent : Content.pilot (((pilotSet s d).hunt p).releaseLconv.freeReport order).cfg.pilotD
        (((pilotSet s d).hunt p).releaseLconv.freeReport order).link.changeCounter = reply.content := by
      rw [hframe.eq]
      cases p <;> rfl
    rw [hcontent] at hexec
    exact ⟨_, hexec, setPilot_measuring rfl⟩
  refine ⟨fun hd => ?_, fun hd hl => ?_, hmeasuring, fun hd hl hg => ?_⟩
  · rw [hexec, applySetPilot_same order (by rw [hcfg]; exact hd.symm), advanced_hunt, State.holdFrame_hunt]
    have hcontent : Content.pilot (s.advanced.hunt p).cfg.pilotD (s.advanced.hunt p).link.changeCounter = reply.content := by
      cases p <;> exact congrArg (Content.pilot · _) hd.symm
    rw [hcontent]
    rfl
  · rw [hexec, applySetPilot_idle order (by rw [hcfg]; exact hd.symm) (hlconv.trans hl), pilotSet_hunt,
      State.holdFrame_hunt]
    have hcontent : Content.pilot ((pilotSet s d).hunt p).cfg.pilotD ((pilotSet s d).hunt p).link.changeCounter
        = reply.content := by cases p <;> rfl
    rw [hcontent]
    rfl
  · obtain ⟨t, hnext, hreport, hholds, hcounter, helse⟩ := hmeasuring hd hl
    have ht := freeReport_of_report hreport
    have hframe := freeReport_frame { pilotSet s d with lconv := none, link := t.link } order
    have hout := freeReport_outcome (s := { pilotSet s d with lconv := none, link := t.link }) rfl order
    rw [← ht] at hframe hout
    obtain ⟨hiff, hfresh⟩ := granted_outcome hout hg
    refine ⟨t, hnext, hframe.cfg, hframe.firstCount, hcounter, hholds, helse,
      hframe.recs, hframe.learn, hframe.nq,
      hframe.boot, hframe.zones, hiff, fun m hm => ?_⟩
    rw [hfresh m hm]
    exact ⟨rfl, rfl, rfl, rfl, rfl, rfl, rfl, rfl, rfl⟩

end Sys2Proof.Machine.Converter
end

section
/-! SUPPORT. One condition record taken from one value to another: what a move, a vote and an emptying write, hand NQ and
tell FOUT, each said once in the words of the statements, and how such turns follow one another. -/

namespace Sys2Proof.Machine.Converter

/-! ## Writing a condition record -/

theorem lineConds_set_set (c : LineConds) (k : LineKind) (x y : Cond) : (c.set k x).set k y = c.set k y := by
  cases k <;> rfl

theorem ampConds_set_set (c : AmpConds) (k : AmpKind) (x y : Cond) : (c.set k x).set k y = c.set k y := by
  cases k <;> rfl

theorem devConds_set_set (c : DevConds) (k : DevKind) (x y : Cond) : (c.set k x).set k y = c.set k y := by
  cases k <;> rfl

theorem lineConds_set_get (c : LineConds) (k : LineKind) : c.set k (c.get k) = c := by cases k <;> rfl

theorem ampConds_set_get (c : AmpConds) (k : AmpKind) : c.set k (c.get k) = c := by cases k <;> rfl

theorem devConds_set_get (c : DevConds) (k : DevKind) : c.set k (c.get k) = c := by cases k <;> rfl

theorem setCond_setCond (s : State) (id : CondId) (x y : Cond) : (s.setCond id x).setCond id y = s.setCond id y := by
  cases id with
  | line l k => simp [State.setCond, Records.setCond, lineConds_set_set]
  | amp a k => simp [State.setCond, Records.setCond, ampConds_set_set]
  | dev k => simp [State.setCond, Records.setCond, devConds_set_set]

theorem setCond_cond (s : State) (id : CondId) : s.setCond id (s.cond id) = s := by
  cases id with
  | line l k => simp [State.setCond, Records.setCond, State.cond, Records.cond, lineConds_set_get]
  | amp a k => simp [State.setCond, Records.setCond, State.cond, Records.cond, ampConds_set_get]
  | dev k => simp [State.setCond, Records.setCond, State.cond, Records.cond, devConds_set_get]

theorem cond_setCond_same (s : State) (id : CondId) (x : Cond) : (s.setCond id x).cond id = x := by
  rw [State.cond_setCond, if_pos rfl]

/-! ## One turn (R111) -/

/-- A condition's record turned to `c`: written, and FOUT told at an entry into ACTIVE or an exit from it. -/
def turnTo (s : State) (id : CondId) (c : Cond) : State :=
  if decide ((s.cond id).state = .active) ≠ decide (c.state = .active) then (s.setCond id c).tellOutputs
  else s.setCond id c

theorem movedInTurn_cons (s : State) (now : CondId → Cond) (id : CondId) (ids : List CondId) :
    s.movedInTurn now (id :: ids) = (turnTo s id (now id)).movedInTurn now ids := rfl

theorem movedInTurn_append (s : State) (now : CondId → Cond) (ids js : List CondId) :
    s.movedInTurn now (ids ++ js) = (s.movedInTurn now ids).movedInTurn now js := List.foldl_append

theorem judging_turnTo (s : State) (id : CondId) (c : Cond) : Judging s (turnTo s id c) := by
  have hset := judging_setCond s id c
  exact .ite (hset.trans ⟨rfl⟩) hset

theorem judging_movedInTurn (s : State) (now : CondId → Cond) (ids : List CondId) : Judging s (s.movedInTurn now ids) :=
  .foldl (fun u id => judging_turnTo u id (now id)) _ _

theorem cond_turnTo (s : State) (id j : CondId) (c : Cond) :
    (turnTo s id c).cond j = if j = id then c else s.cond j := by
  unfold turnTo
  split <;> exact s.cond_setCond id j c

/-- A turn to the record that stands changes nothing. -/
theorem turnTo_cond (s : State) (id : CondId) : turnTo s id (s.cond id) = s := by
  rw [turnTo, if_neg (not_not.mpr rfl), setCond_cond]

theorem cond_movedInTurn (s : State) (now : CondId → Cond) (ids : List CondId) (j : CondId) :
    (s.movedInTurn now ids).cond j = if j ∈ ids then now j else s.cond j := by
  induction ids generalizing s with
  | nil => simp [State.movedInTurn]
  | cons id ids ih =>
    rw [movedInTurn_cons, ih, cond_turnTo]
    by_cases hj : j = id
    · subst hj; simp
    · simp [hj]

theorem movedInTurn_of_same (s : State) (now : CondId → Cond) (ids : List CondId) (h : ∀ id ∈ ids, now id = s.cond id) :
    s.movedInTurn now ids = s := by
  induction ids with
  | nil => rfl
  | cons id ids ih =>
    rw [movedInTurn_cons, h id List.mem_cons_self, turnTo_cond]
    exact ih fun j hj => h j (List.mem_cons_of_mem id hj)

theorem placeAll_append (q : NoticeQueue) (ns ms : List Notice) : q.placeAll (ns ++ ms) = (q.placeAll ns).placeAll ms :=
  List.foldl_append

/-! ## The notice of a turn (R113, R143, R144) -/

theorem moveNotice_same (s : State) (id : CondId) (c : Cond) (cause : Option Cause) (value : Option Nat) :
    s.moveNotice id c c.state cause value = [] := by
  simp [State.moveNotice]

/-- A condition that enters ACTIVE or leaves it hands over one notice, where its subject is a reporting subject. -/
theorem moveNotice_of_change (s : State) (id : CondId) (c : Cond) (new : CondState) (cause : Option Cause)
    (value : Option Nat) (h : decide (c.state = .active) ≠ decide (new = .active)) :
    s.moveNotice id c new cause value
      = if s.counted id.subject then
          [s.notice id.subject (.cond id.kind) (if new = .active then .active else .clear) cause value c.injection.isSome]
        else [] := by
  simp only [State.moveNotice, h, ne_eq, not_false_eq_true, and_true]
  rfl

theorem moveNotice_of_quiet (s : State) (id : CondId) (c : Cond) (new : CondState) (cause : Option Cause)
    (value : Option Nat) (h : decide (c.state = .active) = decide (new = .active)) :
    s.moveNotice id c new cause value = [] := by
  simp [State.moveNotice, h]

/-- A written condition's notice handed over and FOUT told. -/
theorem notifyCond_reevalOutputs (s : State) (id : CondId) (c : Cond) (ev : Event) (cause : Option Cause)
    (value : Option Nat) (test : Bool) :
    ((s.setCond id c).notifyCond id ev cause value test).reevalOutputs
      = { (s.setCond id c).tellOutputs with
          nq := s.nq.placeAll
            (if s.counted id.subject then [s.notice id.subject (.cond id.kind) ev cause value test] else []) } := by
  have hcounted : (s.setCond id c).counted id.subject = s.counted id.subject := rfl
  rw [State.notifyCond_spec, State.reevalOutputs_eq_tellOutputs, hcounted]
  cases s.counted id.subject <;> rfl

/-- A move of a record `c0` that has just been written, in the state the condition had, is a turn with its notice. -/
theorem moveCond_setCond (s : State) (id : CondId) {c0 c1 : Cond} (new : CondState) (cause : Option Cause)
    (value : Option Nat) (h0 : c0.state = (s.cond id).state) (h1 : c1.state = (s.cond id).state) :
    (s.setCond id c0).moveCond id new cause value c1.injection.isSome
      = { turnTo s id (if c0.state = new then c0 else c0.move new s.seq.round) with
          nq := s.nq.placeAll (s.moveNotice id c1 new cause value) } := by
  have hcond := cond_setCond_same s id c0
  have hround : (s.setCond id c0).seq = s.seq := rfl
  by_cases hsame : c0.state = new
  · have hquiet : decide (c1.state = .active) = decide (new = .active) := by rw [h1, ← h0, hsame]
    rw [if_pos hsame, moveNotice_of_quiet _ _ _ _ _ _ hquiet, State.moveCond, hcond, if_pos hsame, turnTo, h0,
      if_neg (not_not.mpr rfl)]
    rfl
  · have hmove : (c0.move new s.seq.round).state = new := rfl
    simp only [State.moveCond, hcond, hsame, if_false, setCond_setCond, hround, notifyCond_reevalOutputs]
    by_cases hchange : decide ((s.cond id).state = .active) ≠ decide (new = .active)
    · rw [turnTo, hmove, if_pos hchange, moveNotice_of_change _ _ _ _ _ _ (h1 ▸ hchange)]
      by_cases hactive : new = .active
      · rw [if_pos hactive, if_pos hactive]
      · have hwas : c0.state = .active := by
          rw [h0]; simpa [hactive] using hchange
        rw [if_neg hactive, if_pos hwas, if_neg hactive]
    · have hquiet := not_not.mp hchange
      have hactive : new ≠ .active := fun h => hsame (by simpa [h, h0] using hquiet)
      have hwas : c0.state ≠ .active := by rw [h0]; simpa [hactive] using hquiet
      rw [turnTo, hmove, if_neg hchange, moveNotice_of_quiet _ _ _ _ _ _ (h1 ▸ hquiet), if_neg hactive, if_neg hwas]
      rfl

/-! ## Votes and emptyings as turns (R102, R110, R118, R127) -/

theorem reevaluated_eq (c : Cond) (r : VoteRule) (round : Round) :
    c.reevaluated r round = if c.state = c.judged r then c else c.move (c.judged r) round := by
  unfold Cond.reevaluated Cond.move
  by_cases h : c.judged r = c.state
  · rw [if_pos h, if_pos h.symm]
  · rw [if_neg h, if_neg (Ne.symm h)]

theorem voted_eq (s : State) (id : CondId) (judged : Vote) :
    s.voted id judged = ((s.cond id).withVote judged).reevaluated (s.ruleFor id) s.seq.round := rfl

theorem state_reevaluated (c : Cond) (r : VoteRule) (round : Round) : (c.reevaluated r round).state = c.judged r := by
  rw [reevaluated_eq]
  split
  · assumption
  · rfl

/-- Whether a vote on a condition pushes its subject: it is entered BAD into a CLEAR condition (R112). -/
def pushes (c : Cond) (judged : Vote) : Bool :=
  (decide (judged = .bad) || c.injection.isSome) && decide (c.state = .clear)

theorem pushes_iff (c : Cond) (judged : Vote) :
    pushes c judged = true ↔ c.voteEntered judged = .bad ∧ c.state = .clear := by
  simp only [pushes, Cond.voteEntered, Bool.and_eq_true, Bool.or_eq_true, decide_eq_true_eq]
  split <;> simp_all

/-- One vote: the turn of the record with its notice, what follows a change of NOPILOT, and the push. -/
theorem vote_eq (s : State) (id : CondId) (judged : Vote) (value : Option Nat) :
    s.vote id judged value
      = let w := ({ turnTo s id (s.voted id judged) with
          nq := s.nq.placeAll (s.moveNotice id (s.cond id) (s.voted id judged).state none value) } : State).afterMove id
            (s.cond id).state (s.voted id judged).state
        if pushes (s.cond id) judged then w.push id.subject else w := by
  have hnew : (s.voted id judged).state = ((s.cond id).withVote judged).judged (s.ruleFor id) := state_reevaluated ..
  have hrule : (s.setCond id ((s.cond id).withVote judged)).ruleFor id = s.ruleFor id := by cases id <;> rfl
  have hmove : (s.setCond id ((s.cond id).withVote judged)).moveCond id (s.voted id judged).state none value
        (s.cond id).injection.isSome
      = { turnTo s id (s.voted id judged) with
          nq := s.nq.placeAll (s.moveNotice id (s.cond id) (s.voted id judged).state none value) } := by
    rw [hnew, voted_eq, reevaluated_eq]
    exact moveCond_setCond s id (c1 := s.cond id) _ none value rfl rfl
  have heval : (s.setCond id ((s.cond id).withVote judged)).evaluate id value (s.cond id).injection.isSome
      = ({ turnTo s id (s.voted id judged) with
          nq := s.nq.placeAll (s.moveNotice id (s.cond id) (s.voted id judged).state none value) } : State).afterMove id
            (s.cond id).state (s.voted id judged).state := by
    unfold State.evaluate
    rw [cond_setCond_same, hrule]
    dsimp only
    rw [← hnew, hmove]
    rfl
  unfold State.vote
  simp only [heval, pushes_iff]

theorem emptied_eq (c : Cond) (round : Round) :
    c.emptied round = if c.state = .clear then { c with window := [] } else ({ c with window := [] } : Cond).move .clear round := by
  simp only [Cond.emptied, Cond.move]
  split
  · next h => rw [← h]
  · simp

/-- Emptying a condition is the turn to its emptied record, with the notice of an exit from ACTIVE. -/
theorem emptyCond_eq (s : State) (id : CondId) (cause : Option Cause) :
    s.emptyCond id cause
      = { turnTo s id ((s.cond id).emptied s.seq.round) with
          nq := s.nq.placeAll (s.moveNotice id (s.cond id) .clear cause none) } := by
  rw [emptied_eq]
  exact moveCond_setCond s id (c0 := { s.cond id with window := [] }) (c1 := s.cond id) .clear cause none rfl rfl

end Sys2Proof.Machine.Converter
end

section
/-! SUPPORT. Votes one after another: a state whose conditions and outputs have moved while its results, its notice queue,
SEQ and the first-count marks are written beside them, and what a vote makes of it. -/

namespace Sys2Proof.Machine.Converter

/-! ## Seen alike -/

/-- In `u` every subject stands as in `s`: its state, its zone and its amplifier, and what is in emergency. -/
structure SameStanding (s u : State) : Prop where
  state : ∀ l, (u.line l).state = (s.line l).state
  feeds : ∀ l, (u.line l).amp = (s.line l).amp
  zone : ∀ l, (u.line l).zone = (s.line l).zone
  amp : ∀ a, u.amp a = s.amp a
  zones : u.zones = s.zones
  evac : u.evac = s.evac

section
variable {s u : State} (h : SameStanding s u)
include h

theorem SameStanding.lineInEmergency (l : LineId) : u.lineInEmergency l = s.lineInEmergency l := by
  simp only [State.lineInEmergency, State.zoneInEmergency, h.zone, h.zones, h.evac]

theorem SameStanding.inEmergency (x : Subject) : u.inEmergency x = s.inEmergency x := by
  cases x <;> simp only [State.inEmergency, State.ampInEmergency, h.feeds, h.lineInEmergency]

theorem SameStanding.counted (x : Subject) : u.counted x = s.counted x := by
  have hstate : u.subjState x = s.subjState x := by cases x <;> simp only [State.subjState, h.state, h.amp]
  simp only [State.counted, hstate, h.inEmergency]

end

/-- `u` judges its conditions and levels its notices as `s` does: the settings, the emergency and the round are the same. -/
structure SameView (s u : State) : Prop where
  cfg : u.cfg = s.cfg
  zones : u.zones = s.zones
  evac : u.evac = s.evac
  round : u.seq.round = s.seq.round

section
variable {s u : State} (h : SameView s u)
include h

theorem SameView.standing : SameStanding s u where
  state l := by simp only [State.line, h.cfg]
  feeds l := by simp only [State.line, h.cfg]
  zone l := by simp only [State.line, h.cfg]
  amp a := by simp only [State.amp, h.cfg]
  zones := h.zones
  evac := h.evac

theorem SameView.moveNotice (id : CondId) (c : Cond) (new : CondState) (cause : Option Cause) (value : Option Nat) :
    u.moveNotice id c new cause value = s.moveNotice id c new cause value := by
  simp only [State.moveNotice, State.levelNow, h.standing.counted, h.standing.inEmergency, h.cfg, h.round]

theorem SameView.lineProfile (l : LineId) : u.lineProfile l = s.lineProfile l :=
  congrArg (fun c : Settings => c.profiles[c.lines[l].profile]) h.cfg

theorem SameView.ruleFor (id : CondId) : u.ruleFor id = s.ruleFor id := by
  cases id with
  | line l k =>
    cases k with
    | earth => exact congrArg Profile.earthRule (h.lineProfile l)
    | opn | highz | dead | short | lowz | degraded => exact congrArg Profile.impRule (h.lineProfile l)
  | amp a k => exact congrArg (fun c : Settings => c.wide.rule) h.cfg
  | dev k => rfl

theorem SameView.voted (id : CondId) (hc : u.cond id = s.cond id) (judged : Vote) : u.voted id judged = s.voted id judged := by
  simp only [State.voted, hc, h.ruleFor, h.round]

end

theorem Judging.sameView {s u : State} (h : Judging s u) : SameView s u := ⟨h.cfg, h.zones, h.evac, h.round⟩

/-! ## A state with other results, notices, SEQ and marks beside its conditions -/

/-- `v` with its condition records and outputs, and with the results, the notices, SEQ and the marks given. -/
def beside (v : State) (res : Records) (nq : NoticeQueue) (seq : Seq) (marks : Vector Bool 8) : State :=
  { v with
    recs := { res with
      lineConds := v.recs.lineConds, ampConds := v.recs.ampConds, devConds := v.recs.devConds }
    nq := nq
    seq := seq
    firstCount := marks }

section
variable (v : State) (res : Records) (nq : NoticeQueue) (seq : Seq) (marks : Vector Bool 8)

theorem cond_beside (id : CondId) : (beside v res nq seq marks).cond id = v.cond id := by cases id <;> rfl

theorem setCond_beside (id : CondId) (c : Cond) :
    (beside v res nq seq marks).setCond id c = beside (v.setCond id c) res nq seq marks := by cases id <;> rfl

theorem unhealthy_beside (o : OutSettings) : (beside v res nq seq marks).unhealthy o = v.unhealthy o := by
  simp only [State.unhealthy, cond_beside]
  rfl

theorem tellOutputs_beside : (beside v res nq seq marks).tellOutputs = beside v.tellOutputs res nq seq marks := by
  simp only [State.tellOutputs, unhealthy_beside]
  rfl

theorem turnTo_beside (id : CondId) (c : Cond) :
    turnTo (beside v res nq seq marks) id c = beside (turnTo v id c) res nq seq marks := by
  unfold turnTo
  rw [cond_beside, setCond_beside]
  split
  · exact tellOutputs_beside ..
  · rfl

theorem sameView_beside {s : State} (hv : Judging s v) (hround : seq.round = s.seq.round) :
    SameView s (beside v res nq seq marks) := ⟨hv.cfg, hv.zones, hv.evac, hround⟩

end

/-! ## One vote beside the results -/

theorem push_eq_pushed (q : Seq) (e : RingEntry) : q.push e = q.pushed e := by
  unfold Seq.push Seq.pushed confirmCapacity
  by_cases hmem : e ∈ q.confirm
  · simp [hmem]
  · by_cases hlen : q.confirm.length < 8
    · simp [hmem, hlen, Nat.not_le.mpr hlen]
    · simp [hmem, hlen, Nat.not_lt.mp hlen]

theorem push_entry (s : State) (e : RingEntry) : s.push e.subject = { s with seq := s.seq.pushed e } := by
  cases e <;> simp only [RingEntry.subject, State.push, push_eq_pushed]

/-- A second push of the same entry changes nothing (R66). -/
theorem pushed_pushed (q : Seq) (e : RingEntry) : (q.pushed e).pushed e = q.pushed e := by
  by_cases h : e ∈ q.confirm ∨ 8 ≤ q.confirm.length
  · have hp : q.pushed e = q := if_pos h
    rw [hp, hp]
  · have hp : q.pushed e = { q with confirm := q.confirm ++ [e] } := if_neg h
    rw [hp]
    exact if_pos (.inl (by simp))

theorem pushedIf_or (q : Seq) (b c : Bool) (e : RingEntry) : (q.pushedIf b e).pushedIf c e = q.pushedIf (b || c) e := by
  cases b <;> cases c <;> simp [Seq.pushedIf, pushed_pushed]

theorem round_pushedIf (q : Seq) (b : Bool) (e : RingEntry) : (q.pushedIf b e).round = q.round := by
  unfold Seq.pushedIf Seq.pushed
  split
  · split <;> rfl
  · rfl

theorem afterMove_other {id : CondId} (h : ∀ a, id ≠ .amp a .nopilot) (s : State) (old new : CondState) :
    s.afterMove id old new = s := by
  cases id with
  | line | dev => rfl
  | amp a k =>
    cases k with
    | nopilot => exact absurd rfl (h a)
    | overload | freq | temp | supply => rfl

section
variable {s v : State} {res : Records} {nq : NoticeQueue} {seq : Seq} {marks : Vector Bool 8} {id : CondId}

/-- One vote on a condition that has not moved since `s`, whatever its kind. -/
theorem vote_beside_afterMove (hv : Judging s v) (hround : seq.round = s.seq.round) (hc : v.cond id = s.cond id)
    (judged : Vote) (value : Option Nat) :
    (beside v res nq seq marks).vote id judged value
      = let w := (beside (turnTo v id (s.voted id judged)) res
          (nq.placeAll (s.moveNotice id (s.cond id) (s.voted id judged).state none value)) seq marks).afterMove id
            (s.cond id).state (s.voted id judged).state
        if pushes (s.cond id) judged then w.push id.subject else w := by
  have hview := sameView_beside v res nq seq marks hv hround
  have hcond : (beside v res nq seq marks).cond id = s.cond id := (cond_beside ..).trans hc
  rw [vote_eq, hview.voted id hcond, hcond, hview.moveNotice, turnTo_beside]
  rfl

/-- One vote on a condition of a line or an amplifier, NOPILOT apart, that has not moved since `s`. -/
theorem vote_beside {e : RingEntry} (hid : ∀ a, id ≠ .amp a .nopilot) (hsub : id.subject = e.subject) (hv : Judging s v)
    (hround : seq.round = s.seq.round) (hc : v.cond id = s.cond id) (judged : Vote) (value : Option Nat) :
    (beside v res nq seq marks).vote id judged value
      = beside (turnTo v id (s.voted id judged)) res
          (nq.placeAll (s.moveNotice id (s.cond id) (s.voted id judged).state none value))
          (seq.pushedIf (pushes (s.cond id) judged) e) marks := by
  rw [vote_beside_afterMove hv hround hc]
  dsimp only
  rw [afterMove_other hid, hsub, push_entry]
  cases pushes (s.cond id) judged <;> rfl

/-- A vote that is taken where `q` says so, and the turn it comes to either way. -/
theorem voteIf_beside {e : RingEntry} (q : Bool) (hid : ∀ a, id ≠ .amp a .nopilot) (hsub : id.subject = e.subject)
    (hv : Judging s v) (hround : seq.round = s.seq.round) (hc : v.cond id = s.cond id) (judged : Vote)
    (value : Option Nat) {c : Cond} (hnow : c = if q then s.voted id judged else s.cond id) :
    (if q then (beside v res nq seq marks).vote id judged value else beside v res nq seq marks)
      = beside (turnTo v id c) res (nq.placeAll (s.moveNotice id (s.cond id) c.state none value))
          (seq.pushedIf (q && pushes (s.cond id) judged) e) marks := by
  subst hnow
  cases q with
  | true => exact vote_beside hid hsub hv hround hc judged value
  | false =>
    rw [if_neg Bool.false_ne_true, if_neg Bool.false_ne_true, moveNotice_same, ← hc, turnTo_cond]
    rfl

end

/-- Votes on several conditions of one line or amplifier, each taken where `q` says so: the conditions move in turn, each
with its notice, and the first BAD vote into a CLEAR condition pushes the subject (R110 to R113). -/
theorem votes_beside {α : Type} {s : State} (id : α → CondId) (q : α → Bool) (judged : α → Vote) (value : Option Nat)
    (e : RingEntry) (now : CondId → Cond) (res : Records) (marks : Vector Bool 8)
    (hid : ∀ x a, id x ≠ .amp a .nopilot) (hsub : ∀ x, (id x).subject = e.subject) (xs : List α) :
    ∀ (v : State) (nq : NoticeQueue) (seq : Seq), (xs.map id).Nodup → Judging s v → seq.round = s.seq.round →
      (∀ x ∈ xs, v.cond (id x) = s.cond (id x)) →
      (∀ x ∈ xs, now (id x) = if q x then s.voted (id x) (judged x) else s.cond (id x)) →
      xs.foldl (fun u x => if q x then u.vote (id x) (judged x) value else u) (beside v res nq seq marks)
        = beside (v.movedInTurn now (xs.map id)) res
            (nq.placeAll (xs.flatMap fun x => s.moveNotice (id x) (s.cond (id x)) (now (id x)).state none value))
            (seq.pushedIf (xs.any fun x => q x && pushes (s.cond (id x)) (judged x)) e) marks := by
  induction xs with
  | nil => intro v nq seq _ _ _ _ _; rfl
  | cons x xs ih =>
    intro v nq seq hnd hv hround hc hnow
    rw [List.map_cons, List.nodup_cons] at hnd
    have hstep := voteIf_beside (res := res) (nq := nq) (marks := marks) (q x) (hid x) (hsub x) hv hround
      (hc x List.mem_cons_self) (judged x) value (hnow x List.mem_cons_self)
    have hrest : ∀ y ∈ xs, (turnTo v (id x) (now (id x))).cond (id y) = s.cond (id y) := fun y hy => by
      have hne : id y ≠ id x := fun h => hnd.1 (h ▸ List.mem_map_of_mem hy)
      rw [cond_turnTo, if_neg hne]
      exact hc y (List.mem_cons_of_mem x hy)
    rw [List.foldl_cons, hstep, ih _ _ _ hnd.2 (hv.trans (judging_turnTo ..)) ((round_pushedIf ..).trans hround) hrest
      fun y hy => hnow y (List.mem_cons_of_mem x hy),
      List.map_cons, movedInTurn_cons, List.flatMap_cons, placeAll_append, List.any_cons, pushedIf_or]

/-! ## What FOUT has been told, seen from another state (R150) -/

/-- Two states whose outputs are told the same: clock, outputs, conditions and counted subjects agree. -/
structure SameTold (s u : State) : Prop where
  clock : u.clock = s.clock
  outA : u.cfg.outA = s.cfg.outA
  outB : u.cfg.outB = s.cfg.outB
  counted : ∀ x, u.counted x = s.counted x
  fout : u.fout = s.fout
  cond : ∀ id, u.cond id = s.cond id

theorem SameTold.setCond {s u : State} (h : SameTold s u) (id : CondId) (c : Cond) :
    SameTold (s.setCond id c) (u.setCond id c) where
  clock := h.clock
  outA := h.outA
  outB := h.outB
  counted x := ((judging_setCond u id c).sameView.standing.counted x).trans
    ((h.counted x).trans ((judging_setCond s id c).sameView.standing.counted x).symm)
  fout := h.fout
  cond j := by rw [State.cond_setCond, State.cond_setCond, h.cond]

theorem SameTold.tellOutputs {s u : State} (h : SameTold s u) : SameTold s.tellOutputs u.tellOutputs where
  clock := h.clock
  outA := h.outA
  outB := h.outB
  counted := h.counted
  fout := by simp only [State.tellOutputs, State.unhealthy, h.clock, h.outA, h.outB, h.counted, h.fout, h.cond]
  cond := h.cond

theorem SameTold.turnTo {s u : State} (h : SameTold s u) (id : CondId) (c : Cond) :
    SameTold (turnTo s id c) (turnTo u id c) := by
  unfold Converter.turnTo
  rw [h.cond]
  split
  · exact (h.setCond id c).tellOutputs
  · exact h.setCond id c

theorem SameTold.movedInTurn {s u : State} (h : SameTold s u) {now later : CondId → Cond} (ids : List CondId)
    (hnow : ∀ id ∈ ids, later id = now id) : (u.movedInTurn later ids).fout = (s.movedInTurn now ids).fout := by
  induction ids generalizing s u with
  | nil => exact h.fout
  | cons id ids ih =>
    rw [movedInTurn_cons, movedInTurn_cons, hnow id List.mem_cons_self]
    exact ih (h.turnTo id _) fun j hj => hnow j (List.mem_cons_of_mem id hj)

end Sys2Proof.Machine.Converter
end

section
/-! SUPPORT. A completed measurement in general: the command that completes it, what every completion leaves alone, what its
free report then brings, and what FOUT has been told; with the completion of a REF measurement. -/

namespace Sys2Proof.Machine.Converter

/-! ## The last sample block (R25, R27) -/

theorem sampled_sampleBlock (s : State) (m : Meas) (v i prog : Nat) : (s.sampleBlock m v i prog).sampled = m.sampled + 1 := by
  rw [sampleBlock_eq]

theorem sample_withBlock (m : Meas) (masked : Bool) (v i : Nat) : (m.withBlock masked v i).sample = m.sample := by
  cases masked <;> rfl

theorem sample_sampleBlock (s : State) (m : Meas) (v i prog : Nat) : (s.sampleBlock m v i prog).sample = m.sample := by
  rw [sampleBlock_eq]
  exact sample_withBlock ..

/-- The measurement in flight at its N-th sample block: it completes at the block's end, and LCONV reports free. -/
theorem exec_lastSampleBlock {s : State} {m : Meas} (v i prog : Code) (th su : Bool) (order : RaceOrder)
    (hm : s.lconv = some m) (hs : m.settle ≤ m.settled) (hn : m.sample ≤ m.sampled + 1) :
    exec (.sampleBlockEnd v i prog th su order) s
      = .next (((s.waitUntil (s.blockDue m)).complete (s.sampleBlock m v.val i.val prog.val) th su).freeReport order) := by
  have hlast : (s.sampleBlock m v.val i.val prog.val).sample ≤ (s.sampleBlock m v.val i.val prog.val).sampled := by
    rw [sample_sampleBlock, sampled_sampleBlock]
    exact hn
  rw [exec_sampleBlockEnd v i prog th su order hm hs, State.endSampleBlock, if_pos hlast]

/-! ## What a completion leaves alone (R27) -/

/-- From `s` to `u` a measurement has completed and LCONV has returned to IDLE, and no more has been written than a
completion may write. -/
structure Completion (s u : State) : Prop where
  idle : u.lconv = none
  ring : u.cfg.ring = s.cfg.ring
  scan : u.cfg.scan = s.cfg.scan
  ebrg : u.ebrg = s.ebrg
  power : u.power = s.power
  boot : u.boot = s.boot
  straps : u.straps = s.straps
  zones : u.zones = s.zones
  evac : u.evac = s.evac
  pilotOn : u.pilotOn = s.pilotOn
  link : u.link = s.link
  memory : u.memory = s.memory
  freeCount : u.freeCount = s.freeCount
  pending : u.pending = s.pending
  earthRes : u.recs.earthRes = s.recs.earthRes
  seqState : u.seq.state = s.seq.state

/-- The free report after a completion, in the words of the statements (R69, R82). -/
theorem Completion.afterFreeReport {s u : State} (h : Completion s u) (order : RaceOrder) :
    AfterFreeReport s u (u.freeReport order) order := by
  have hframe := freeReport_frame u order
  have hout := freeReport_outcome h.idle order
  rw [h.scan, ← hframe.clock] at hout
  have hungranted : s.seq.state ≠ .granted → (u.freeReport order).lconv = none ∧ (u.freeReport order).seq.state = s.seq.state := by
    intro hg
    rw [GrantOutcome, if_neg (h.seqState ▸ hg), h.seqState] at hout
    exact hout
  exact
    { report := freeReport_report h.idle order
      before_ring := h.ring
      before_ebrg := h.ebrg
      power := hframe.power.trans h.power
      boot := hframe.boot.trans h.boot
      straps := hframe.straps.trans h.straps
      zones := hframe.zones.trans h.zones
      evac := hframe.evac.trans h.evac
      pilotOn := hframe.pilotOn.trans h.pilotOn
      link := hframe.link.trans h.link
      memory := hframe.memory.trans h.memory
      freeCount := hframe.freeCount.trans h.freeCount
      pending := hframe.pending.trans h.pending
      earthRes := (congrArg Records.earthRes hframe.recs).trans h.earthRes
      ebrg := fun hw => (freeReport_ebrg (by rw [h.ebrg]; exact hw) order).trans h.ebrg
      granted := fun hg => (granted_outcome hout (h.seqState.trans hg)).1
      fresh := fun m hm => by
        by_cases hg : s.seq.state = .granted
        · exact (granted_outcome hout (h.seqState.trans hg)).2 m hm
        · cases (hungranted hg).1.symm.trans hm
      ungranted := hungranted }

/-! ## Where the conditions and the outputs stand after a completion -/

/-- `u` carries the conditions and the outputs of a state, beside which everything else may have been written. -/
structure Carries (v u : State) : Prop where
  clock : u.clock = v.clock
  fout : u.fout = v.fout
  cond : ∀ id, u.cond id = v.cond id

/-- The conditions listed have moved in turn by the end of a block, and FOUT has been told of nothing else (R150). -/
theorem outputsTold_of_turns {s u : State} {now : CondId → Cond} {ids : List CondId} {due : Nat}
    (h : Carries ((s.waitUntil due).movedInTurn now ids) u) (houtA : u.cfg.outA = s.cfg.outA) (houtB : u.cfg.outB = s.cfg.outB)
    (hst : SameStanding s u) : OutputsTold s u ids := by
  have hclock : u.clock = (s.waitUntil due).clock := h.clock.trans (judging_movedInTurn ..).clock
  have htold : SameTold (s.waitUntil due) { u with recs := s.recs, fout := s.fout } :=
    { clock := hclock, outA := houtA, outB := houtB, counted := hst.counted, fout := rfl, cond := fun _ => rfl }
  unfold OutputsTold
  rw [h.fout]
  exact (htold.movedInTurn ids fun id hid => by rw [h.cond, cond_movedInTurn, if_pos hid]).symm

/-- The state right before the free report of a completion that writes no settings and no learning record: at the end of its
block some conditions have moved in turn, with results, notices, SEQ and the first-count marks written beside them. -/
def completed (s : State) (due : Nat) (now : CondId → Cond) (ids : List CondId) (res : Records) (nq : NoticeQueue) (seq : Seq)
    (marks : Vector Bool 8) : State :=
  (beside ((s.waitUntil due).movedInTurn now ids) res nq seq marks).releaseLconv

section
variable (s : State) (due : Nat) (now : CondId → Cond) (ids : List CondId) (res : Records) (nq : NoticeQueue) (seq : Seq)
  (marks : Vector Bool 8)

theorem cond_completed (id : CondId) :
    (completed s due now ids res nq seq marks).cond id = if id ∈ ids then now id else s.cond id :=
  (cond_beside _ res nq seq marks id).trans (cond_movedInTurn (s.waitUntil due) now ids id)

theorem cfg_completed : (completed s due now ids res nq seq marks).cfg = s.cfg :=
  (judging_movedInTurn (s.waitUntil due) now ids).cfg

theorem clock_completed : (completed s due now ids res nq seq marks).clock = max s.clock due :=
  (judging_movedInTurn (s.waitUntil due) now ids).clock

theorem learn_completed : (completed s due now ids res nq seq marks).learn = s.learn :=
  (judging_movedInTurn (s.waitUntil due) now ids).learn

theorem completion_completed (hres : res.earthRes = s.recs.earthRes) (hseq : seq.state = s.seq.state) :
    Completion s (completed s due now ids res nq seq marks) := by
  unfold completed
  rw [(judging_movedInTurn (s.waitUntil due) now ids).eq]
  exact ⟨rfl, rfl, rfl, rfl, rfl, rfl, rfl, rfl, rfl, rfl, rfl, rfl, rfl, rfl, hres, hseq⟩

theorem outputsTold_completed : OutputsTold s (completed s due now ids res nq seq marks) ids := by
  have hturns := judging_movedInTurn (s.waitUntil due) now ids
  have hcfg := cfg_completed s due now ids res nq seq marks
  have hview : SameView s ((s.waitUntil due).movedInTurn now ids) := ⟨hturns.cfg, hturns.zones, hturns.evac, hturns.round⟩
  have hst := hview.standing
  exact outputsTold_of_turns ⟨rfl, rfl, cond_beside _ res nq seq marks⟩ (congrArg Settings.outA hcfg)
    (congrArg Settings.outB hcfg) ⟨hst.state, hst.feeds, hst.zone, hst.amp, hst.zones, hst.evac⟩

end

/-- From `s` a completion has led to `u`, with what is given here written, and its free report has led to `t`. -/
structure Reported (s u t : State) (due : Nat) (ids : List CondId) (res : Records) (nq : NoticeQueue) (seq : Seq)
    (marks : Vector Bool 8) (order : RaceOrder) : Prop where
  clock : t.clock = max s.clock due
  cond : ∀ id, t.cond id = u.cond id
  lineRes : t.recs.lineRes = res.lineRes
  ampRes : t.recs.ampRes = res.ampRes
  refRes : t.recs.refRes = res.refRes
  minMax : t.recs.minMax = res.minMax
  maskedRun : t.recs.maskedRun = res.maskedRun
  nq : t.nq = nq
  seq : u.seq = seq
  firstCount : t.firstCount = marks
  cfg : t.cfg = { s.cfg with ring := t.cfg.ring }
  learn : t.learn = s.learn
  told : OutputsTold s u ids
  after : AfterFreeReport s u t order

theorem reported_completed (s : State) (due : Nat) (now : CondId → Cond) (ids : List CondId) {res : Records}
    (nq : NoticeQueue) {seq : Seq} (marks : Vector Bool 8) (order : RaceOrder) (hres : res.earthRes = s.recs.earthRes)
    (hseq : seq.state = s.seq.state) :
    Reported s (completed s due now ids res nq seq marks) ((completed s due now ids res nq seq marks).freeReport order) due ids
      res nq seq marks order := by
  have hreport := freeReport_frame (completed s due now ids res nq seq marks) order
  have hrecs := hreport.recs
  have hcfg := hreport.cfg
  rw [cfg_completed] at hcfg
  exact
    { clock := hreport.clock.trans (clock_completed ..)
      cond := fun id => by rw [State.cond, hrecs]; rfl
      lineRes := by rw [hrecs]; rfl
      ampRes := by rw [hrecs]; rfl
      refRes := by rw [hrecs]; rfl
      minMax := by rw [hrecs]; rfl
      maskedRun := by rw [hrecs]; rfl
      nq := hreport.nq
      seq := rfl
      firstCount := hreport.firstCount
      cfg := hcfg
      learn := hreport.learn.trans (learn_completed ..)
      told := outputsTold_completed ..
      after := (completion_completed s due now ids res nq seq marks hres hseq).afterFreeReport order }

/-! ## REF (R31, R32, R115) -/

theorem classifyRef_eq (meanV meanI : Nat) :
    classifyRef meanV meanI
      = if !(decide (2028 ≤ meanV ∧ meanV ≤ 2068) && decide (2028 ≤ meanI ∧ meanI ≤ 2068)) then RefClass.out else .normal := by
  have hrange : ∀ mean, decide (2028 ≤ mean ∧ mean ≤ 2068) = refInRange mean := fun mean => Bool.decide_and ..
  rw [hrange, hrange, classifyRef]
  cases refInRange meanV && refInRange meanI <;> rfl

/-- A completed REF measurement up to the free report: its record, the turn of the condition REF and its notice. -/
theorem completeRef_eq (s : State) (due : Nat) (m : Meas) (now : CondId → Cond) {judged : Vote}
    (hjudged : judged = if (s.refRecord m).cls = some .out then .bad else .clean)
    (hnow : now (.dev .ref) = s.voted (.dev .ref) judged) :
    (s.waitUntil due).completeRef m
      = completed s due now [.dev .ref] { s.recs with refRes := s.refRecord m } (s.nqAfterVote (.dev .ref) judged none) s.seq
          s.firstCount := by
  have hvote := vote_beside_afterMove (s := s.waitUntil due) (v := s.waitUntil due)
    (res := { s.recs with refRes := s.refRecord m }) (nq := s.nq) (seq := s.seq) (marks := s.firstCount) (id := .dev .ref)
    (.refl _) rfl rfl judged none
  have hpush : ∀ w : State, w.push (CondId.dev .ref).subject = w := fun _ => rfl
  simp only [hpush, ite_self] at hvote
  have hcomplete : (s.waitUntil due).completeRef m
      = ((beside (s.waitUntil due) { s.recs with refRes := s.refRecord m } s.nq s.seq s.firstCount).vote (.dev .ref) judged
          none).releaseLconv := by
    rw [hjudged]
    rfl
  rw [hcomplete, hvote, completed, movedInTurn_cons, hnow]
  rfl

end Sys2Proof.Machine.Converter
end

section
/-! SUPPORT. A completed line measurement: its figures, its votes and DEGRADED, the hand-over to LEARN, and the obligation
that the completion of a line measurement does all of this in its order. -/

namespace Sys2Proof.Machine.Converter

/-! ## The figures of a line measurement (R28, R43 to R47, R54) -/

theorem deviation?_eq (z : Nat) (zref : Option Nat) :
    deviation? z zref
      = if z ≤ 65534 then
          zref.map fun r => max (-1000) (min 9999 (Int.tdiv (((z : Int) - (r : Int)) * 1000) (r : Int)))
        else none := by
  cases zref with
  | none => exact (ite_self none).symm
  | some r => rfl

theorem classifyLine_eq (p : Profile) (meanV meanI z : Nat) (dev : Option Int) :
    classifyLine p meanV meanI z dev
      = if meanV < p.vmin then (if p.ishort ≤ meanI then .short else .dead)
        else if z = 65535 ∨ p.openLimit ≤ z then .opn
        else if z < p.shortLimit then .short
        else match dev with
          | some d => if (p.high : Int) ≤ d then .high else if d ≤ -(p.low : Int) then .low else .normal
          | none => .normal := by
  by_cases hlow : meanV < p.vmin
  · by_cases hshort : p.ishort ≤ meanI <;> simp [classifyLine, hlow, hshort]
  · cases dev <;> simp [classifyLine, hlow]

theorem minMax_enter_eq (x : MinMax) (z : Nat) : x.enter z = { minZ := min x.minZ z, maxZ := max x.maxZ z } := by
  unfold MinMax.enter
  congr 1 <;> split <;> omega

/-- The impedance of a line measurement. -/
def measuredZ (s : State) (l : LineId) (m : Meas) : Nat :=
  lineZ m.sumV m.sumI (meanCode m.sumI m.v) (s.lineProfile l).imin

/-- The deviation of a line measurement, whatever its class. -/
def measuredDev (s : State) (l : LineId) (m : Meas) : Option Int := deviation? (measuredZ s l m) (s.line l).zref

/-- The class of a line measurement, whatever its status. -/
def measuredClass (s : State) (l : LineId) (m : Meas) : LineClass :=
  classifyLine (s.lineProfile l) (meanCode m.sumV m.v) (meanCode m.sumI m.v) (measuredZ s l m) (measuredDev s l m)

/-- The impedance a line result carries when it is not MASKED. -/
def carriedZ (s : State) (l : LineId) (m : Meas) : Option Nat :=
  if measuredClass s l m = .dead then none else some (measuredZ s l m)

theorem lineStatus_eq (s : State) (l : LineId) (m : Meas) :
    s.lineStatus l m
      = if m.v < m.sample / 2 then .masked
        else if s.refActive then .unreliable
        else if (s.amp (s.line l).amp).state ≠ .off ∧ s.noPilot (s.line l).amp = true then .suppressed
        else .valid := by
  simp only [State.lineStatus, Meas.tooFew, decide_eq_true_eq]

theorem lineRecord_eq (s : State) (l : LineId) (m : Meas) :
    s.lineRecord l m
      = { round := s.seq.round
          status := s.lineStatus l m
          v := m.v
          meanV := if s.lineStatus l m = .masked then none else some (meanCode m.sumV m.v)
          meanI := if s.lineStatus l m = .masked then none else some (meanCode m.sumI m.v)
          z := if s.lineStatus l m = .masked ∨ measuredClass s l m = .dead then none else some (measuredZ s l m)
          dev := if s.lineStatus l m = .masked ∨ measuredClass s l m = .dead then none else measuredDev s l m
          cls := if s.lineStatus l m = .masked then none else some (measuredClass s l m)
          clipped := m.clipped
          injected := false
          learning := s.learn[l].isSome } := by
  change LineResult.mk _ _ _ (if decide (s.lineStatus l m ≠ .masked) then _ else _) _
    (if decide (s.lineStatus l m ≠ .masked) && decide (measuredClass s l m ≠ .dead) then some (measuredZ s l m) else none)
    (if decide (s.lineStatus l m ≠ .masked) && decide (measuredClass s l m ≠ .dead) then measuredDev s l m else none)
    (if decide (s.lineStatus l m ≠ .masked) then some (measuredClass s l m) else none) _ _ _ = _
  by_cases hmasked : s.lineStatus l m = .masked
  · simp [hmasked]
  · by_cases hdead : measuredClass s l m = .dead <;> simp [hmasked, hdead, meanCode]

/-- The figures of a line measurement are those of its sums: the instant, the block counts and the counter do not matter. -/
theorem lineRecord_sampleBlock (s : State) (due : Nat) (l : LineId) (m : Meas) (v i prog : Nat) :
    (s.waitUntil due).lineRecord l (s.sampleBlock m v i prog)
      = s.lineRecord l (m.withBlock (s.isMasked m.subject prog) v i) := by
  rw [sampleBlock_eq]; rfl

/-! ## The votes of a line result (R30, R114, R118) -/

/-- Whether a line result of this status takes a vote on a condition. -/
def takesVote (s : State) (l : LineId) (status : MeasStatus) (k : LineKind) : Bool :=
  decide (status = .valid) && decide (k ∈ impedanceKinds) && (!(decide (k = .highz) || decide (k = .lowz)) || s.refVotes l)

theorem votingKinds_of_valid (s : State) (l : LineId) : s.votingKinds l = impedanceKinds.filter (takesVote s l .valid) := by
  refine List.filter_congr fun k hk => ?_
  simp [takesVote, hk]

theorem takesVote_invalid {s : State} {l : LineId} {status : MeasStatus} (h : status ≠ .valid) (k : LineKind) :
    takesVote s l status k = false := by
  simp [takesVote, h]

theorem voteLine_eq {s : State} {l : LineId} {r : LineResult} {cls : LineClass} {value : Option Nat}
    (hcls : r.status = .valid → r.cls = some cls) (hvalue : r.status = .valid → r.z = value) :
    s.voteLine l r
      = impedanceKinds.foldl (fun u k => if takesVote s l r.status k then u.vote (.line l k) (lineVote cls k) value else u) s := by
  unfold State.voteLine
  by_cases hvalid : r.status = .valid
  · rw [hvalid, hcls hvalid, hvalue hvalid, ← List.foldl_filter, ← votingKinds_of_valid]
  · simp only [takesVote_invalid hvalid, Bool.false_eq_true, if_false, List.foldl_fixed]
    split
    · contradiction
    · rfl

theorem lineForced_eq (s : State) (l : LineId) (r : LineResult) :
    s.lineForced l r
      = impedanceKinds.any fun k => takesVote s l r.status k && (s.cond (.line l k)).injection.isSome := by
  unfold State.lineForced
  by_cases hvalid : r.status = .valid
  · rw [hvalid, votingKinds_of_valid, List.any_filter]; rfl
  · simp [hvalid, takesVote_invalid hvalid]

theorem lineVote_eq (cls : LineClass) (k : LineKind) :
    lineVote cls k
      = if decide ((cls, k) ∈ [(LineClass.opn, LineKind.opn), (.high, .highz), (.dead, .dead), (.short, .short), (.low, .lowz)])
        then .bad else .clean := by
  cases cls <;> cases k <;> rfl

/-- Where a completed line result leaves the conditions of its line: the five that take votes, and DEGRADED. -/
def lineTurned (s : State) (l : LineId) (status : MeasStatus) (cls : LineClass) (degraded : Cond) : CondId → Cond
  | .line _ k =>
    if k = .degraded then degraded
    else if takesVote s l status k then s.voted (.line l k) (lineVote cls k)
    else s.cond (.line l k)
  | .amp a k => s.cond (.amp a k)
  | .dev k => s.cond (.dev k)

/-! ## DEGRADED (R119, R120) -/

/-- DEGRADED after one completed line result that leaves the masked run count `run`. -/
def degradedAfter (c : Cond) (maskLimit run : Nat) (status : MeasStatus) (round : Round) : Cond :=
  if c.state = .clear ∧ status = .masked ∧ maskLimit ≤ run then { c with state := .active, since := round, latch := true }
  else if c.state = .active ∧ status ≠ .masked then { c with state := .clear, since := round }
  else c

/-- A condition that moves without a vote is turned, with a notice that carries no TEST flag. -/
theorem moveCond_beside {s v : State} (res : Records) (nq : NoticeQueue) {seq : Seq} (marks : Vector Bool 8) {id : CondId}
    (hv : Judging s v) (hround : seq.round = s.seq.round) (hc : v.cond id = s.cond id) {new : CondState}
    (hnew : (s.cond id).state ≠ new) :
    (beside v res nq seq marks).moveCond id new none none false
      = beside (turnTo v id ((s.cond id).move new s.seq.round)) res
          (nq.placeAll (s.moveNotice id { s.cond id with injection := none } new none none)) seq marks := by
  have hcond : (beside v res nq seq marks).cond id = s.cond id := (cond_beside ..).trans hc
  have hview := sameView_beside v res nq seq marks hv hround
  have hmove := moveCond_setCond (beside v res nq seq marks) id (c0 := s.cond id)
    (c1 := { s.cond id with injection := none }) new none none (by rw [hcond]) (by rw [hcond])
  rw [if_neg hnew, ← hcond, setCond_cond, hcond, turnTo_beside, hview.moveNotice, hview.round] at hmove
  exact hmove

theorem moveDegraded_beside {s v : State} (res : Records) (nq : NoticeQueue) {seq : Seq} (marks : Vector Bool 8) {l : LineId}
    (hv : Judging s v) (hround : seq.round = s.seq.round) (hc : v.cond (.line l .degraded) = s.cond (.line l .degraded))
    (status : MeasStatus) {run : Nat} (hrun : run = maskedRunAfter res.maskedRun[l] status) {degraded : Cond}
    (hdegraded : degraded
      = degradedAfter (s.cond (.line l .degraded)) (s.lineProfile l).maskLimit run status s.seq.round) :
    (beside v res nq seq marks).moveDegraded l status
      = beside (turnTo v (.line l .degraded) degraded) { res with maskedRun := res.maskedRun.set l run }
          (nq.placeAll (s.moveNotice (.line l .degraded) { s.cond (.line l .degraded) with injection := none }
            degraded.state none none)) seq marks := by
  have hcond : (beside v res nq seq marks).cond (.line l .degraded) = s.cond (.line l .degraded) := (cond_beside ..).trans hc
  have hmove := fun new hnew =>
    moveCond_beside (new := new) { res with maskedRun := res.maskedRun.set l run } nq marks hv hround hc hnew
  have hprofile := (sameView_beside v res nq seq marks hv hround).lineProfile l
  have hstep : (beside v res nq seq marks).moveDegraded l status
      = let w := beside v { res with maskedRun := res.maskedRun.set l run } nq seq marks
        if (s.cond (.line l .degraded)).state = .clear ∧ status = .masked ∧ (s.lineProfile l).maskLimit ≤ run then
          w.moveCond (.line l .degraded) .active none none false
        else if (s.cond (.line l .degraded)).state = .active ∧ status ≠ .masked then
          w.moveCond (.line l .degraded) .clear none none false
        else w := by
    unfold State.moveDegraded
    rw [hcond, hprofile, hrun]
    rfl
  rw [hstep, hdegraded, degradedAfter]
  dsimp only
  by_cases henter : (s.cond (.line l .degraded)).state = .clear ∧ status = .masked ∧ (s.lineProfile l).maskLimit ≤ run
  · rw [if_pos henter, if_pos henter]
    have hactive := hmove .active (by rw [henter.1]; decide)
    simp only [Cond.move, decide_true, Bool.or_true] at hactive
    exact hactive
  · rw [if_neg henter, if_neg henter]
    by_cases hleave : (s.cond (.line l .degraded)).state = .active ∧ status ≠ .masked
    · rw [if_pos hleave, if_pos hleave]
      have hclear := hmove .clear (by rw [hleave.1]; decide)
      have hlatch : decide (CondState.clear = .active) = false := rfl
      simp only [Cond.move, hlatch, Bool.or_false] at hclear
      exact hclear
    · rw [if_neg hleave, if_neg hleave, ← hc, turnTo_cond, moveNotice_of_quiet _ _ _ _ _ _ rfl]
      rfl

end Sys2Proof.Machine.Converter
end

section
/-! SUPPORT. A completed line measurement: the hand-over to LEARN, and the obligation that the completion of a line
measurement replaces its record, votes, hands over and reports free. -/

namespace Sys2Proof.Machine.Converter

/-! ## The hand-over to LEARN (R27 step 5, R133) -/

/-- Emptying a condition that is CLEAR with an empty window changes nothing. -/
theorem emptyCond_of_empty {s : State} {id : CondId} (cause : Option Cause) (hwindow : (s.cond id).window = [])
    (hclear : (s.cond id).state = .clear) : s.emptyCond id cause = s := by
  have hemptied : (s.cond id).emptied s.seq.round = s.cond id := by
    rw [Cond.emptied, if_pos hclear, ← hwindow, ← hclear]
  rw [emptyCond_eq, hemptied, turnTo_cond, ← hclear, moveNotice_same]
  rfl

/-- HIGHZ and LOWZ of a line have nothing to empty. -/
def RefEmpty (s : State) (l : LineId) : Prop :=
  ∀ k, k = LineKind.highz ∨ k = LineKind.lowz → (s.cond (.line l k)).window = [] ∧ (s.cond (.line l k)).state = .clear

theorem emptyRef_of_empty {s : State} {l : LineId} (h : RefEmpty s l) : s.emptyRef l = s := by
  obtain ⟨hwindow, hclear⟩ := h .highz (.inl rfl)
  rw [State.emptyRef, emptyCond_of_empty none hwindow hclear]
  obtain ⟨hwindow, hclear⟩ := h .lowz (.inr rfl)
  exact emptyCond_of_empty none hwindow hclear

/-- From `s` to `u` nothing has been written but the reference and the learning record of the line `l`, and NQ. -/
structure LearnFrame (l : LineId) (s u : State) : Prop where
  eq : u = { s with cfg := { s.cfg with lines := u.cfg.lines }, learn := u.learn, nq := u.nq }
  entry : ∃ zref, u.cfg.lines = s.cfg.lines.set l { s.cfg.lines[l] with zref := zref }
  learn : ∃ r, u.learn = s.learn.set l r

theorem lines_set_same (l : LineId) (s : State) : ∃ zref, s.cfg.lines = s.cfg.lines.set l { s.cfg.lines[l] with zref := zref } :=
  ⟨s.cfg.lines[l].zref, (Vector.set_getElem_self _).symm⟩

theorem learnFrame_refl (l : LineId) (s : State) : LearnFrame l s s :=
  ⟨rfl, lines_set_same l s, ⟨s.learn[l], (Vector.set_getElem_self _).symm⟩⟩

theorem learnFrame_setLearn (l : LineId) (s : State) (r : Option LearnRec) : LearnFrame l s (s.setLearn l r) :=
  ⟨rfl, lines_set_same l s, ⟨r, rfl⟩⟩

theorem learnFrame_failLearning (l : LineId) (s : State) (cause : Cause) : LearnFrame l s (s.failLearning l cause) :=
  ⟨rfl, lines_set_same l s, ⟨none, rfl⟩⟩

theorem learnFrame_learnWaits (l : LineId) (s : State) (r : LearnRec) : LearnFrame l s (s.learnWaits l r) := by
  unfold State.learnWaits
  split
  · exact learnFrame_failLearning l s .timeout
  · exact learnFrame_setLearn l s (some r)

theorem learnFrame_completeLearning {l : LineId} {s : State} (h : RefEmpty s l) (r : LearnRec) :
    LearnFrame l s (s.completeLearning l r) := by
  unfold State.completeLearning
  split
  · have hempty : RefEmpty (s.setZref l (some (candidateZref r.sumZ r.target))) l := h
    dsimp only
    rw [emptyRef_of_empty hempty]
    exact ⟨rfl, ⟨_, rfl⟩, ⟨none, rfl⟩⟩
  · exact learnFrame_failLearning l s .spread

/-- A line result handed to LEARN touches its line's reference and learning record, and NQ, where HIGHZ and LOWZ of a
learning line hold nothing (R118). -/
theorem learnFrame_handLearn {l : LineId} {s : State} (h : s.learn[l].isSome = true → RefEmpty s l) (res : LineResult) :
    LearnFrame l s (s.handLearn l res) := by
  unfold State.handLearn
  split
  · exact learnFrame_refl l s
  · next r hlearn =>
    have hempty : RefEmpty s l := h (by simp [hlearn])
    dsimp only
    split
    · exact learnFrame_failLearning l s .fault
    · exact learnFrame_failLearning l s .fault
    · exact learnFrame_failLearning l s .fault
    · split
      · exact learnFrame_completeLearning hempty _
      · exact learnFrame_learnWaits l s _
    · exact learnFrame_learnWaits l s _

theorem handLearn_of_none {l : LineId} {s : State} (h : s.learn[l] = none) (res : LineResult) : s.handLearn l res = s := by
  rw [State.handLearn, h]

section
variable {l : LineId} {s u : State}

theorem LearnFrame.standing (h : LearnFrame l s u) : SameStanding s u := by
  obtain ⟨zref, hlines⟩ := h.entry
  have hline : ∀ j, (u.line j).state = (s.line j).state ∧ (u.line j).amp = (s.line j).amp
      ∧ (u.line j).zone = (s.line j).zone := fun j => by
    unfold State.line
    rw [hlines]
    by_cases hj : j = l
    · subst hj; simp
    · simp [Fin.val_ne_of_ne (Ne.symm hj)]
  exact
    { state := fun j => (hline j).1, feeds := fun j => (hline j).2.1, zone := fun j => (hline j).2.2
      amp := fun a => by rw [h.eq]; rfl, zones := by rw [h.eq], evac := by rw [h.eq] }

theorem LearnFrame.elsewhere (h : LearnFrame l s u) {j : LineId} (hj : j ≠ l) :
    u.cfg.lines[j] = s.cfg.lines[j] ∧ u.learn[j] = s.learn[j] := by
  obtain ⟨zref, hlines⟩ := h.entry
  obtain ⟨r, hlearn⟩ := h.learn
  rw [hlines, hlearn]
  simp [Fin.val_ne_of_ne (Ne.symm hj)]

end

/-! ## The completion up to the hand-over (R27 steps 1 to 4) -/

/-- The new record of a line, with its INJECTED flag (R30). -/
def lineResult (s : State) (l : LineId) (m : Meas) : LineResult :=
  { s.lineRecord l m with
    injected := impedanceKinds.any fun k => takesVote s l (s.lineStatus l m) k && (s.cond (.line l k)).injection.isSome }

/-- The masked run count of a line after a measurement. -/
def lineRun (s : State) (l : LineId) (m : Meas) : Nat := maskedRunAfter s.recs.maskedRun[l] (s.lineStatus l m)

/-- The figures minZ and maxZ after a measurement (R54). -/
def lineFigures (s : State) (l : LineId) (m : Meas) : Vector MinMax 24 :=
  if s.lineStatus l m = .valid ∧ measuredClass s l m ≠ .dead ∧ measuredZ s l m ≤ 65534 then
    s.recs.minMax.set l
      { minZ := min s.recs.minMax[l].minZ (measuredZ s l m), maxZ := max s.recs.minMax[l].maxZ (measuredZ s l m) }
  else s.recs.minMax

/-- DEGRADED of a line after a measurement. -/
def lineDegraded (s : State) (l : LineId) (m : Meas) : Cond :=
  degradedAfter (s.cond (.line l .degraded)) (s.lineProfile l).maskLimit (lineRun s l m) (s.lineStatus l m) s.seq.round

/-- Where a measurement leaves the conditions of its line. -/
def lineNow (s : State) (l : LineId) (m : Meas) : CondId → Cond :=
  lineTurned s l (s.lineStatus l m) (measuredClass s l m) (lineDegraded s l m)

/-- The notices of a measurement: those of its votes, then DEGRADED's. -/
def lineNotices (s : State) (l : LineId) (m : Meas) : List Notice :=
  (impedanceKinds.flatMap fun k =>
      s.moveNotice (.line l k) (s.cond (.line l k)) (lineNow s l m (.line l k)).state none (carriedZ s l m))
    ++ s.moveNotice (.line l .degraded) { s.cond (.line l .degraded) with injection := none } (lineDegraded s l m).state none
      none

/-- Whether a measurement pushes its line (R112). -/
def linePush (s : State) (l : LineId) (m : Meas) : Bool :=
  impedanceKinds.any fun k =>
    takesVote s l (s.lineStatus l m) k && pushes (s.cond (.line l k)) (lineVote (measuredClass s l m) k)

/-- The state a line's measurement hands to LEARN. -/
def lineJudged (s : State) (due : Nat) (l : LineId) (m : Meas) : State :=
  beside ((s.waitUntil due).movedInTurn (lineNow s l m) ((impedanceKinds ++ [LineKind.degraded]).map (.line l)))
    { s.recs with
      lineRes := s.recs.lineRes.set l (lineResult s l m)
      minMax := lineFigures s l m
      maskedRun := s.recs.maskedRun.set l (lineRun s l m) }
    (s.nq.placeAll (lineNotices s l m)) (s.seq.pushedIf (linePush s l m) (.line l)) s.firstCount

theorem lineResult_status (s : State) (l : LineId) (m : Meas) : (lineResult s l m).status = s.lineStatus l m := rfl

theorem lineResult_cls {s : State} {l : LineId} {m : Meas} (h : s.lineStatus l m = .valid) :
    (lineResult s l m).cls = some (measuredClass s l m) := by
  rw [lineResult, lineRecord_eq]
  simp [h]

theorem lineResult_z {s : State} {l : LineId} {m : Meas} (h : s.lineStatus l m = .valid) :
    (lineResult s l m).z = carriedZ s l m := by
  rw [lineResult, lineRecord_eq]
  simp [h, carriedZ]

theorem enterMinMax_setLineRes (s : State) (l : LineId) (m : Meas) :
    (s.setLineRes l (lineResult s l m)).enterMinMax l (lineResult s l m)
      = { s with recs := { s.recs with
            lineRes := s.recs.lineRes.set l (lineResult s l m), minMax := lineFigures s l m } } := by
  unfold State.enterMinMax lineFigures
  rw [lineResult_status]
  by_cases hvalid : s.lineStatus l m = .valid
  · rw [hvalid, lineResult_z hvalid, carriedZ]
    by_cases hdead : measuredClass s l m = .dead
    · simp [hdead, State.setLineRes]
    · by_cases hz : measuredZ s l m ≤ 65534 <;> simp [hdead, hz, State.setLineRes, minMax_enter_eq]
  · simp only [hvalid, false_and, if_false]
    split
    · contradiction
    · rfl

/-- The votes of a line result: its five impedance conditions move in turn. -/
theorem voteLine_beside (s : State) (due : Nat) (l : LineId) (m : Meas) (res : Records) :
    (beside (s.waitUntil due) res s.nq s.seq s.firstCount).voteLine l (lineResult s l m)
      = beside ((s.waitUntil due).movedInTurn (lineNow s l m) (impedanceKinds.map (.line l))) res
          (s.nq.placeAll (impedanceKinds.flatMap fun k =>
            s.moveNotice (.line l k) (s.cond (.line l k)) (lineNow s l m (.line l k)).state none (carriedZ s l m)))
          (s.seq.pushedIf (linePush s l m) (.line l)) s.firstCount := by
  have hnow : ∀ k ∈ impedanceKinds, lineNow s l m (.line l k)
      = if takesVote s l (s.lineStatus l m) k then s.voted (.line l k) (lineVote (measuredClass s l m) k)
        else s.cond (.line l k) := fun k hk => by
    have hk : k ≠ .degraded := fun h => by subst h; contradiction
    exact if_neg hk
  have hnodup : (impedanceKinds.map (CondId.line l)).Nodup :=
    List.Nodup.map (fun _ _ h => by cases h; rfl) (by decide)
  rw [voteLine_eq (fun h => lineResult_cls h) (fun h => lineResult_z h)]
  exact votes_beside (s := s.waitUntil due) (CondId.line l) (takesVote s l (s.lineStatus l m)) (lineVote (measuredClass s l m))
    (carriedZ s l m) (.line l) (lineNow s l m) res s.firstCount (fun _ _ h => nomatch h) (fun _ => rfl) impedanceKinds
    (s.waitUntil due) s.nq s.seq hnodup (.refl _) rfl (fun _ _ => rfl) hnow

theorem lineNow_degraded (s : State) (l : LineId) (m : Meas) : lineNow s l m (.line l .degraded) = lineDegraded s l m := rfl

theorem sameView_waitUntil (s : State) (due : Nat) : SameView s (s.waitUntil due) := ⟨rfl, rfl, rfl, rfl⟩

theorem movedInTurn_singleton (s : State) (now : CondId → Cond) (id : CondId) :
    s.movedInTurn now [id] = turnTo s id (now id) := rfl

/-- The completion of a line measurement, up to the free report. -/
theorem completeLine_eq (s : State) (due : Nat) (l : LineId) (m : Meas) (v i prog : Nat) {b : Meas}
    (hb : m.withBlock (s.isMasked m.subject prog) v i = b) :
    (s.waitUntil due).completeLine l (s.sampleBlock m v i prog)
      = ((lineJudged s due l b).handLearn l (lineResult s l b)).releaseLconv := by
  have hresult : { (s.waitUntil due).lineRecord l (s.sampleBlock m v i prog) with
      injected := (s.waitUntil due).lineForced l ((s.waitUntil due).lineRecord l (s.sampleBlock m v i prog)) }
      = lineResult s l b := by
    rw [lineRecord_sampleBlock, hb, lineForced_eq]
    rfl
  have hmoved := moveDegraded_beside (s := s.waitUntil due)
    (v := (s.waitUntil due).movedInTurn (lineNow s l b) (impedanceKinds.map (.line l)))
    { s.recs with lineRes := s.recs.lineRes.set l (lineResult s l b), minMax := lineFigures s l b }
    (s.nq.placeAll (impedanceKinds.flatMap fun k =>
      s.moveNotice (.line l k) (s.cond (.line l k)) (lineNow s l b (.line l k)).state none (carriedZ s l b)))
    (seq := s.seq.pushedIf (linePush s l b) (.line l)) s.firstCount (l := l) (judging_movedInTurn ..) (round_pushedIf ..)
    (by rw [cond_movedInTurn, if_neg (by simp [impedanceKinds])]) (s.lineStatus l b) (run := lineRun s l b) rfl
    (degraded := lineDegraded s l b) rfl
  have hentered : ((s.waitUntil due).setLineRes l (lineResult s l b)).enterMinMax l (lineResult s l b)
      = beside (s.waitUntil due)
          { s.recs with lineRes := s.recs.lineRes.set l (lineResult s l b), minMax := lineFigures s l b } s.nq s.seq
          s.firstCount := enterMinMax_setLineRes (s.waitUntil due) l b
  have hjudged : ((((s.waitUntil due).setLineRes l (lineResult s l b)).enterMinMax l (lineResult s l b)).voteLine l
      (lineResult s l b)).moveDegraded l (lineResult s l b).status = lineJudged s due l b := by
    rw [hentered, voteLine_beside, lineResult_status, hmoved, (sameView_waitUntil s due).moveNotice, ← placeAll_append,
      lineJudged, List.map_append, movedInTurn_append, List.map_singleton, movedInTurn_singleton, lineNow_degraded]
    rfl
  change ((((((s.waitUntil due).setLineRes l _).enterMinMax l _).voteLine l _).moveDegraded l (LineResult.status _)).handLearn
    l _).releaseLconv = _
  rw [hresult, hjudged]

/-! ## What the hand-over finds and leaves -/

theorem beside_eq {s v : State} (hv : Judging s v) (res : Records) (nq : NoticeQueue) (seq : Seq) (marks : Vector Bool 8) :
    beside v res nq seq marks
      = { s with recs := (beside v res nq seq marks).recs, nq := nq, seq := seq, fout := v.fout, firstCount := marks } := by
  unfold beside
  conv_lhs => rw [hv.eq]

section
variable (s : State) (due : Nat) (l : LineId) (m : Meas)

theorem lineJudged_eq : lineJudged s due l m
    = { s with
        clock := max s.clock due
        recs := (lineJudged s due l m).recs
        nq := s.nq.placeAll (lineNotices s l m)
        seq := s.seq.pushedIf (linePush s l m) (.line l)
        fout := (lineJudged s due l m).fout } := by
  have hturns := judging_movedInTurn (s.waitUntil due) (lineNow s l m) ((impedanceKinds ++ [LineKind.degraded]).map (.line l))
  unfold lineJudged
  generalize (s.waitUntil due).movedInTurn _ _ = v at hturns ⊢
  exact beside_eq hturns ..

variable {s due l m} in
theorem lineJudged_of_parts {clock : Nat} {recs : Records} {nq : NoticeQueue} {seq : Seq} {fout : Fout}
    (hclock : clock = max s.clock due) (hrecs : recs = (lineJudged s due l m).recs)
    (hnq : nq = s.nq.placeAll (lineNotices s l m)) (hseq : seq = s.seq.pushedIf (linePush s l m) (.line l))
    (hfout : fout = (lineJudged s due l m).fout) :
    { s with clock := clock, recs := recs, nq := nq, seq := seq, fout := fout } = lineJudged s due l m := by
  rw [hclock, hrecs, hnq, hseq, hfout, ← lineJudged_eq]

theorem lineRes_lineJudged : (lineJudged s due l m).recs.lineRes = s.recs.lineRes.set l (lineResult s l m) := rfl

theorem lineNow_kind {k : LineKind} (hk : k ≠ .degraded) :
    lineNow s l m (.line l k)
      = if takesVote s l (s.lineStatus l m) k then s.voted (.line l k) (lineVote (measuredClass s l m) k)
        else s.cond (.line l k) := if_neg hk

/-- The conditions of the line where the measurement leaves them. -/
theorem cond_lineJudged_line (k : LineKind) : (lineJudged s due l m).cond (.line l k) = lineNow s l m (.line l k) := by
  rw [lineJudged, cond_beside, cond_movedInTurn]
  by_cases hmem : CondId.line l k ∈ (impedanceKinds ++ [LineKind.degraded]).map (CondId.line l)
  · rw [if_pos hmem]
  · have hkind : k ∉ impedanceKinds ++ [LineKind.degraded] := fun h => hmem (List.mem_map_of_mem h)
    simp only [List.mem_append, List.mem_singleton, not_or] at hkind
    have hskip : takesVote s l (s.lineStatus l m) k = false := by simp [takesVote, hkind.1]
    rw [if_neg hmem, lineNow_kind s l m hkind.2, hskip]
    rfl

theorem cond_lineJudged_other {id : CondId} (h : id.subject ≠ .line l) : (lineJudged s due l m).cond id = s.cond id := by
  have hmem : id ∉ (impedanceKinds ++ [LineKind.degraded]).map (CondId.line l) := fun hid => by
    obtain ⟨k, -, rfl⟩ := List.mem_map.mp hid
    exact h rfl
  rw [lineJudged, cond_beside, cond_movedInTurn, if_neg hmem]
  rfl

/-- A learning line's HIGHZ and LOWZ take no vote, so there is nothing in them for LEARN to empty (R118). -/
theorem refEmpty_lineJudged (hgate : ReferenceGated s) (hlearn : s.learn[l].isSome = true) :
    RefEmpty (lineJudged s due l m) l := by
  intro k hk
  have hvotes : s.refVotes l = false := by
    rw [State.refVotes, Option.isNone_eq_false_iff.mpr hlearn, Bool.and_false]
  have hskip : takesVote s l (s.lineStatus l m) k = false := by
    obtain rfl | rfl := hk <;> simp [takesVote, hvotes]
  have hkind : k ≠ .degraded := by obtain rfl | rfl := hk <;> decide
  rw [cond_lineJudged_line, lineNow_kind s l m hkind, hskip]
  exact hgate.empty l hvotes k hk

end

theorem seqState_pushedIf (q : Seq) (b : Bool) (e : RingEntry) : (q.pushedIf b e).state = q.state := by
  unfold Seq.pushedIf Seq.pushed
  split
  · split <;> rfl
  · rfl

/-- The conditions and outputs of a line's measurement are still there after the hand-over. -/
theorem carries_handLearn {s u : State} {due : Nat} {l : LineId} {m : Meas} (h : LearnFrame l (lineJudged s due l m) u) :
    Carries ((s.waitUntil due).movedInTurn (lineNow s l m) ((impedanceKinds ++ [LineKind.degraded]).map (.line l)))
      u.releaseLconv := by
  unfold lineJudged at h
  generalize (s.waitUntil due).movedInTurn _ _ = v at h ⊢
  rw [h.eq]
  exact ⟨rfl, rfl, fun id => by cases id <;> rfl⟩

/-- The state right before the free report of a line measurement: what LEARN has left of the judged state. -/
theorem completion_handLearn {s u : State} {due : Nat} {l : LineId} {m : Meas} (h : LearnFrame l (lineJudged s due l m) u) :
    Completion s u.releaseLconv := by
  have hearth : (lineJudged s due l m).recs.earthRes = s.recs.earthRes := rfl
  rw [h.eq, lineJudged_eq]
  exact ⟨rfl, rfl, rfl, rfl, rfl, rfl, rfl, rfl, rfl, rfl, rfl, rfl, rfl, rfl, hearth, seqState_pushedIf ..⟩

theorem outputsTold_handLearn {s u : State} {due : Nat} {l : LineId} {m : Meas} (h : LearnFrame l (lineJudged s due l m) u) :
    OutputsTold s u.releaseLconv ((impedanceKinds ++ [LineKind.degraded]).map (.line l)) := by
  have hst := h.standing
  have houtA : u.cfg.outA = s.cfg.outA := by rw [h.eq, lineJudged_eq]
  have houtB : u.cfg.outB = s.cfg.outB := by rw [h.eq, lineJudged_eq]
  rw [lineJudged_eq] at hst
  exact outputsTold_of_turns (carries_handLearn h) houtA houtB
    ⟨hst.state, hst.feeds, hst.zone, hst.amp, hst.zones, hst.evac⟩

/-- The conditions a line result votes on stand under the impedance rule (R109). -/
theorem ruleFor_of_takesVote {s : State} {l : LineId} {status : MeasStatus} {k : LineKind}
    (h : takesVote s l status k = true) : s.ruleFor (.line l k) = (s.lineProfile l).impRule := by
  cases k with
  | earth => simp [takesVote, impedanceKinds] at h
  | opn | highz | dead | short | lowz | degraded => rfl

/-- Settles O53: the completion up to the hand-over is `lineJudged`, which LEARN then takes and the free report ends. -/
theorem lineMeasurementCompletes : Obligations.LineMeasurementCompletes := by
  unfold Obligations.LineMeasurementCompletes
  intro s m l vc ic pc th su order hm hsub hs hn hgate e p b meanV meanI z dev cls status votes bad run figures degraded push
  have hz : z = measuredZ s l b := rfl
  have hdev : dev = measuredDev s l b := by rw [measuredDev, deviation?_eq]; rfl
  have hcls : cls = measuredClass s l b := by
    rw [measuredClass, ← hdev, ← hz, classifyLine_eq]
    rfl
  have hstatus : status = s.lineStatus l b := by rw [lineStatus_eq, sample_withBlock]
  have hvotes : votes = takesVote s l (s.lineStatus l b) := by rw [← hstatus]; rfl
  have hbad : ∀ k, (if bad k then Vote.bad else .clean) = lineVote (measuredClass s l b) k := fun k => by
    rw [← hcls]
    exact (lineVote_eq cls k).symm
  have hrun : run = lineRun s l b := by
    rw [lineRun, ← hstatus]
    rfl
  have hpush : push = linePush s l b := by
    refine congrArg impedanceKinds.any (funext fun k => ?_)
    rw [hvotes, Bool.and_assoc, ← hbad, pushes]
    cases bad k <;> rfl
  have hresult : lineResult s l b
      = { round := s.seq.round
          status := status
          v := b.v
          meanV := if status = .masked then none else some meanV
          meanI := if status = .masked then none else some meanI
          z := if status = .masked ∨ cls = .dead then none else some z
          dev := if status = .masked ∨ cls = .dead then none else dev
          cls := if status = .masked then none else some cls
          clipped := b.clipped
          injected := impedanceKinds.any fun k => votes k && (s.cond (.line l k)).injection.isSome
          learning := s.learn[l].isSome } := by
    rw [lineResult, lineRecord_eq, hvotes, hcls, hstatus, hz, hdev]
    rfl
  have hsubject : (s.sampleBlock m vc.val ic.val pc.val).subject = .line l := (subject_sampleBlock ..).trans hsub
  have hb : m.withBlock (s.isMasked m.subject pc.val) vc.val ic.val = b := by rw [hsub]; rfl
  have hexec := exec_lastSampleBlock vc ic pc th su order hm hs hn
  rw [State.complete, hsubject] at hexec
  dsimp only at hexec
  rw [completeLine_eq s (s.blockDue m) l m _ _ _ hb] at hexec
  have hframe : LearnFrame l (lineJudged s (s.blockDue m) l b) _ :=
    learnFrame_handLearn (fun h => refEmpty_lineJudged s _ l b hgate (by rwa [lineJudged_eq] at h)) (lineResult s l b)
  generalize hv : (lineJudged s (s.blockDue m) l b).handLearn l (lineResult s l b) = v at hexec hframe
  have hcompletion := (completion_handLearn hframe).afterFreeReport order
  have hreport := freeReport_frame v.releaseLconv order
  generalize v.releaseLconv.freeReport order = t at hexec hcompletion hreport
  have hclock : t.clock = max s.clock (s.blockDue m) := by
    rw [hreport.clock, State.releaseLconv, hframe.eq, lineJudged_eq]
  have hrecs : t.recs = (lineJudged s (s.blockDue m) l b).recs := by rw [hreport.recs, State.releaseLconv, hframe.eq]
  have hfout : v.releaseLconv.fout = (lineJudged s (s.blockDue m) l b).fout := by rw [State.releaseLconv, hframe.eq]
  have hcond : ∀ id, t.cond id = (lineJudged s (s.blockDue m) l b).cond id := fun id => by rw [State.cond, hrecs]; rfl
  have hline : t.recs.lineRes[l] = lineResult s l b := by
    rw [hrecs, lineRes_lineJudged]
    exact Vector.getElem_set_self _
  have hnq : s.nq.placeAll ((impedanceKinds.flatMap fun k => s.moveNotice (.line l k) (s.cond (.line l k))
          (t.cond (.line l k)).state none (if cls = .dead then none else some z))
        ++ s.moveNotice (.line l .degraded) { degraded with injection := none } (t.cond (.line l .degraded)).state none none)
      = s.nq.placeAll (lineNotices s l b) := by
    simp only [hcond, cond_lineJudged_line, lineNow_degraded, hcls, hz]
    rfl
  refine ⟨v.releaseLconv, t, hexec, hclock, ?_, ?_, ?_, ?_, ?_, ?_, ?_, ?_, ?_, outputsTold_handLearn hframe, ?_, ?_, ?_, ?_,
    hcompletion⟩
  · rw [hrecs, lineRes_lineJudged, hresult]
    rfl
  · rw [hrecs]; rfl
  · rw [hrecs]; rfl
  · rw [hrecs, hcls, hstatus, hz]; rfl
  · rw [hrecs, hrun]; rfl
  · intro k hk
    rw [hcond, cond_lineJudged_line, lineNow_kind s l b hk, hbad, hvotes]
    split
    · next htakes => rw [State.voted, ruleFor_of_takesVote htakes]
    · rfl
  · rw [hcond, cond_lineJudged_line, lineNow_degraded, hstatus, hrun]
    rfl
  · exact fun id hid => (hcond id).trans (cond_lineJudged_other s _ l b hid)
  · have hjudged := lineJudged_of_parts hclock hrecs hnq (congrArg (s.seq.pushedIf · (.line l)) hpush) hfout
    have hlearned := congrArg (fun j : State => (j.handLearn l (lineResult s l b)).releaseLconv) hjudged
    change _ = State.releaseLconv (State.handLearn _ l t.recs.lineRes[l])
    rw [hline]
    exact (hlearned.trans (congrArg State.releaseLconv hv)).symm
  · intro hlearn
    have hsame := handLearn_of_none (s := lineJudged s (s.blockDue m) l b) (by rw [lineJudged_eq]; exact hlearn)
      (lineResult s l b)
    rw [hreport.cfg, hreport.learn, State.releaseLconv, ← hv, hsame, lineJudged_eq]
    exact ⟨rfl, rfl⟩
  · rw [hreport.cfg, State.releaseLconv, hframe.eq, lineJudged_eq]
  · intro j hj
    have helse := hframe.elsewhere hj
    rw [lineJudged_eq] at helse
    rw [hreport.cfg, hreport.learn]
    exact helse
  · rw [hreport.firstCount, State.releaseLconv, hframe.eq, lineJudged_eq]

end Sys2Proof.Machine.Converter
end

section
/-! SUPPORT. A completed amplifier measurement: its votes one after another with the INJECTED flag of its record, the
attribution that follows NOPILOT into ACTIVE, and the first-count mark. -/

namespace Sys2Proof.Machine.Converter

/-! ## One vote with the INJECTED flag (R30, R127) -/

/-- The results with an amplifier's record written, its INJECTED flag as given. -/
def ampRecs (s : State) (a : AmpId) (r : AmpResult) (injected : Bool) : Records :=
  { s.recs with ampRes := s.recs.ampRes.set a { r with injected := injected } }

/-- A condition of an amplifier after a vote that is taken where `q` says so. -/
def votedIf (s : State) (id : CondId) (q : Bool) (judged : Vote) : Cond := if q then s.voted id judged else s.cond id

/-- Whether a vote that is taken where `q` says so is forced by an injection. -/
def forcedIf (s : State) (id : CondId) (q : Bool) : Bool := q && (s.cond id).injection.isSome

/-- Whether a vote that is taken where `q` says so pushes its subject. -/
def pushesIf (s : State) (id : CondId) (q : Bool) (judged : Vote) : Bool := q && pushes (s.cond id) judged

section
variable {s v : State} {nq : NoticeQueue} {seq : Seq} {marks : Vector Bool 8} {a : AmpId} (r : AmpResult) (injected : Bool)

theorem markAmp_beside (forced : Bool) :
    (beside v (ampRecs s a r injected) nq seq marks).markAmp a forced
      = beside v (ampRecs s a r (injected || forced)) nq seq marks := by
  cases forced with
  | false => rw [Bool.or_false]; rfl
  | true =>
    have hread : (ampRecs s a r injected).ampRes[a] = { r with injected := injected } := Vector.getElem_set_self _
    have hwrite : (ampRecs s a r injected).ampRes.set a { r with injected := true }
        = s.recs.ampRes.set a { r with injected := true } := Vector.set_set ..
    rw [Bool.or_true, State.markAmp, if_pos rfl]
    change beside v { s.recs with
      ampRes := (ampRecs s a r injected).ampRes.set a { (ampRecs s a r injected).ampRes[a] with injected := true } } nq seq
        marks = _
    rw [hread]
    exact congrArg (fun x => beside v { s.recs with ampRes := x } nq seq marks) hwrite

theorem forces_beside (res : Records) {id : CondId} (hc : v.cond id = s.cond id) :
    (beside v res nq seq marks).forces id = (s.cond id).injection.isSome := by
  rw [State.forces, cond_beside, hc]

/-- A vote on a condition of an amplifier, NOPILOT apart, that is taken where `q` says so. -/
theorem voteAmpIf_beside {k : AmpKind} (hk : k ≠ .nopilot) (q : Bool) (hv : Judging s v) (hround : seq.round = s.seq.round)
    (hc : v.cond (.amp a k) = s.cond (.amp a k)) (judged : Vote) (value : Option Nat) {c : Cond}
    (hnow : c = votedIf s (.amp a k) q judged) :
    (if q then (beside v (ampRecs s a r injected) nq seq marks).voteAmp a k judged value
      else beside v (ampRecs s a r injected) nq seq marks)
      = beside (turnTo v (.amp a k) c) (ampRecs s a r (injected || forcedIf s (.amp a k) q))
          (nq.placeAll (s.moveNotice (.amp a k) (s.cond (.amp a k)) c.state none value))
          (seq.pushedIf (pushesIf s (.amp a k) q judged) (.amp a)) marks := by
  have hvote := voteIf_beside (res := ampRecs s a r (injected || forcedIf s (.amp a k) q)) (nq := nq) (marks := marks)
    (id := .amp a k) (e := .amp a) q (fun _ h => hk (by cases h; rfl)) rfl hv hround hc judged value hnow
  rw [pushesIf, ← hvote, State.voteAmp, forces_beside _ hc, markAmp_beside, forcedIf]
  cases q <;> simp

end

/-! ## Attribution (R102) -/

/-- The lines an amplifier feeds, ascending, as their condition DEAD. -/
def fedDeads (s : State) (a : AmpId) (ls : List LineId) : List CondId :=
  (ls.filter fun l => decide ((s.line l).amp = a)).map fun l => .line l .dead

/-- DEAD of a line after an attribution that takes place where `q` says so. -/
def deadAfter (s : State) (q : Bool) (a : AmpId) (l : LineId) : Cond :=
  if q = true ∧ (s.line l).amp = a ∧ (s.line l).state ≠ .off ∧ (s.cond (.line l .dead)).state ≠ .clear then
    (s.cond (.line l .dead)).emptied s.seq.round
  else s.cond (.line l .dead)

section
variable {s v : State} {res : Records} {nq : NoticeQueue} {seq : Seq} {marks : Vector Bool 8}

/-- The attribution of one line's DEAD: the turn of its record with its notice. -/
theorem attributeLine_beside {l : LineId} (hv : Judging s v) (hround : seq.round = s.seq.round)
    (hc : v.cond (.line l .dead) = s.cond (.line l .dead)) :
    (beside v res nq seq marks).attributeLine l
      = beside
          (turnTo v (.line l .dead)
            (if (s.cond (.line l .dead)).state = .clear then s.cond (.line l .dead)
              else (s.cond (.line l .dead)).emptied s.seq.round))
          res (nq.placeAll (s.moveNotice (.line l .dead) (s.cond (.line l .dead)) .clear (some .attributed) none)) seq
          marks := by
  have hcond : (beside v res nq seq marks).cond (.line l .dead) = s.cond (.line l .dead) := (cond_beside ..).trans hc
  have hview := sameView_beside v res nq seq marks hv hround
  rw [State.attributeLine, hcond]
  by_cases hclear : (s.cond (.line l .dead)).state = .clear
  · rw [if_pos hclear, if_pos hclear, ← hc, turnTo_cond, hc, moveNotice_of_quiet _ _ _ _ _ _ (by rw [hclear])]
    rfl
  · rw [if_neg hclear, if_neg hclear, emptyCond_eq, hcond, hview.moveNotice, hview.round, turnTo_beside]
    rfl

/-- The attribution over a list of lines: the fed ones' DEAD in turn, each with its notice. -/
theorem attributeLines_beside {a : AmpId} (now : CondId → Cond) (hnow : ∀ l, now (.line l .dead) = deadAfter s true a l)
    (ls : List LineId) :
    ∀ (v : State) (nq : NoticeQueue), ls.Nodup → Judging s v → seq.round = s.seq.round →
      (∀ l ∈ ls, v.cond (.line l .dead) = s.cond (.line l .dead)) →
      ls.foldl (fun u l => if (u.line l).amp = a ∧ (u.line l).state ≠ .off then u.attributeLine l else u)
          (beside v res nq seq marks)
        = beside (v.movedInTurn now (fedDeads s a ls)) res
            (nq.placeAll ((ls.filter fun l => decide ((s.line l).amp = a ∧ (s.line l).state ≠ .off)).flatMap fun l =>
              s.moveNotice (.line l .dead) (s.cond (.line l .dead)) .clear (some .attributed) none)) seq marks := by
  induction ls with
  | nil => intro v nq _ _ _ _; rfl
  | cons l ls ih =>
    intro v nq hnd hv hround hc
    rw [List.nodup_cons] at hnd
    have hview := (sameView_beside v res nq seq marks hv hround).standing
    have hrest : ∀ c, ∀ j ∈ ls, (turnTo v (.line l .dead) c).cond (.line j .dead) = s.cond (.line j .dead) := fun c j hj => by
      have hne : CondId.line j .dead ≠ .line l .dead := fun h => hnd.1 (by cases h; exact hj)
      rw [cond_turnTo, if_neg hne]
      exact hc j (List.mem_cons_of_mem l hj)
    have hlater : ∀ j ∈ ls, v.cond (.line j .dead) = s.cond (.line j .dead) := fun j hj => hc j (List.mem_cons_of_mem l hj)
    rw [List.foldl_cons, hview.feeds, hview.state]
    by_cases hfed : (s.line l).amp = a
    · have hids : fedDeads s a (l :: ls) = .line l .dead :: fedDeads s a ls := by simp [fedDeads, hfed]
      rw [hids, movedInTurn_cons, hnow]
      by_cases hoff : (s.line l).state = .off
      · have hsame : deadAfter s true a l = v.cond (.line l .dead) := by simp [deadAfter, hoff, hc]
        rw [if_neg (by simp [hoff]), ih v nq hnd.2 hv hround hlater, hsame, turnTo_cond]
        simp [hoff]
      · have hdead : deadAfter s true a l
            = if (s.cond (.line l .dead)).state = .clear then s.cond (.line l .dead)
              else (s.cond (.line l .dead)).emptied s.seq.round := by
          by_cases hclear : (s.cond (.line l .dead)).state = .clear <;> simp [deadAfter, hfed, hoff, hclear]
        rw [if_pos ⟨hfed, hoff⟩, attributeLine_beside hv hround (hc l List.mem_cons_self), ← hdead,
          ih _ _ hnd.2 (hv.trans (judging_turnTo ..)) hround (hrest _)]
        simp [hfed, hoff, placeAll_append]
    · have hids : fedDeads s a (l :: ls) = fedDeads s a ls := by simp [fedDeads, hfed]
      rw [if_neg (by simp [hfed]), ih v nq hnd.2 hv hround hlater, hids]
      simp [hfed]

end

end Sys2Proof.Machine.Converter
end

section
/-! SUPPORT. A completed amplifier measurement: NOPILOT with what follows its moves, FREQ with the first-count mark, and the
completion up to the free report. -/

namespace Sys2Proof.Machine.Converter

/-! ## NOPILOT (R95, R97, R102) -/

/-- Whether a condition enters ACTIVE with the record `c`. -/
def entersActive (s : State) (id : CondId) (c : Cond) : Bool :=
  !decide ((s.cond id).state = .active) && decide (c.state = .active)

/-- Whether a condition leaves ACTIVE with the record `c`. -/
def leavesActive (s : State) (id : CondId) (c : Cond) : Bool :=
  decide ((s.cond id).state = .active) && !decide (c.state = .active)

theorem entersActive_cond (s : State) (id : CondId) : entersActive s id (s.cond id) = false := by
  simp [entersActive]

theorem leavesActive_cond (s : State) (id : CondId) : leavesActive s id (s.cond id) = false := by
  simp [leavesActive]

theorem deadAfter_false (s : State) (a : AmpId) (l : LineId) : deadAfter s false a l = s.cond (.line l .dead) :=
  if_neg (by simp)

/-- The marks with an amplifier's first-count mark set, where `q` says so. -/
def markedIf (marks : Vector Bool 8) (a : AmpId) (q : Bool) : Vector Bool 8 := if q then marks.set a true else marks

/-- What follows a move of NOPILOT: attribution at an entry into ACTIVE, the first-count mark at an exit from it. -/
theorem afterMove_nopilot (s w : State) (a : AmpId) (c : Cond) :
    w.afterMove (.amp a .nopilot) (s.cond (.amp a .nopilot)).state c.state
      = let x := if entersActive s (.amp a .nopilot) c then w.attributeFed a else w
        if leavesActive s (.amp a .nopilot) c then x.setFirstCount a true else x := by
  unfold State.afterMove leavesActive entersActive
  by_cases hold : (s.cond (.amp a .nopilot)).state = .active <;> by_cases hnew : c.state = .active <;> simp [hold, hnew]

section
variable {s v : State} {res : Records} {nq : NoticeQueue} {seq : Seq} {marks : Vector Bool 8} {a : AmpId}

theorem mem_fedDeads {ls : List LineId} {id : CondId} (h : id ∈ fedDeads s a ls) : ∃ l, id = .line l .dead := by
  obtain ⟨l, -, rfl⟩ := List.mem_map.mp h
  exact ⟨l, rfl⟩

/-- The attribution, where it takes place, of all lines an amplifier feeds. -/
theorem attributedIf_beside (q : Bool) {now : CondId → Cond} (hnow : ∀ l, now (.line l .dead) = deadAfter s q a l)
    (hv : Judging s v) (hround : seq.round = s.seq.round) (hc : ∀ l, v.cond (.line l .dead) = s.cond (.line l .dead)) :
    (if q then (beside v res nq seq marks).attributeFed a else beside v res nq seq marks)
      = beside (v.movedInTurn now (fedDeads s a allLines)) res (nq.placeAll (if q then s.attributedNotices a else [])) seq
          marks := by
  cases q with
  | true =>
    rw [if_pos rfl, if_pos rfl, State.attributeFed, State.attributedNotices]
    exact attributeLines_beside now hnow allLines v nq (List.nodup_finRange 24) hv hround fun l _ => hc l
  | false =>
    have hsame : ∀ id ∈ fedDeads s a allLines, now id = v.cond id := fun id hid => by
      obtain ⟨l, rfl⟩ := mem_fedDeads hid
      rw [hnow, deadAfter_false, hc]
    rw [movedInTurn_of_same v now _ hsame]
    rfl

/-- What follows a move of NOPILOT beside the results. -/
theorem afterMove_beside {c : Cond} {now : CondId → Cond}
    (hnow : ∀ l, now (.line l .dead) = deadAfter s (entersActive s (.amp a .nopilot) c) a l)
    (hv : Judging s v) (hround : seq.round = s.seq.round) (hc : ∀ l, v.cond (.line l .dead) = s.cond (.line l .dead)) :
    (beside v res nq seq marks).afterMove (.amp a .nopilot) (s.cond (.amp a .nopilot)).state c.state
      = beside (v.movedInTurn now (fedDeads s a allLines)) res
          (nq.placeAll (if entersActive s (.amp a .nopilot) c then s.attributedNotices a else [])) seq
          (markedIf marks a (leavesActive s (.amp a .nopilot) c)) := by
  rw [afterMove_nopilot, attributedIf_beside _ hnow hv hround hc]
  cases leavesActive s (.amp a .nopilot) c <;> rfl

/-- A vote on NOPILOT that is taken where `q` says so, with the attribution or the first-count mark it brings. -/
theorem votePilotIf_beside (r : AmpResult) (injected q : Bool) {judged : Vote} {c : Cond} {now : CondId → Cond}
    (hcond : c = votedIf s (.amp a .nopilot) q judged)
    (hnow : ∀ l, now (.line l .dead) = deadAfter s (entersActive s (.amp a .nopilot) c) a l)
    (hv : Judging s v) (hround : seq.round = s.seq.round) (hc : ∀ id, v.cond id = s.cond id) :
    (if q then (beside v (ampRecs s a r injected) nq seq marks).voteAmp a .nopilot judged none
      else beside v (ampRecs s a r injected) nq seq marks)
      = beside ((turnTo v (.amp a .nopilot) c).movedInTurn now (fedDeads s a allLines))
          (ampRecs s a r (injected || forcedIf s (.amp a .nopilot) q))
          (nq.placeAll (s.moveNotice (.amp a .nopilot) (s.cond (.amp a .nopilot)) c.state none none
            ++ if entersActive s (.amp a .nopilot) c then s.attributedNotices a else []))
          (seq.pushedIf (pushesIf s (.amp a .nopilot) q judged) (.amp a))
          (markedIf marks a (leavesActive s (.amp a .nopilot) c)) := by
  have hdeads : ∀ l, (turnTo v (.amp a .nopilot) c).cond (.line l .dead) = s.cond (.line l .dead) := fun l => by
    rw [cond_turnTo, if_neg (fun h => nomatch h), hc]
  have hturned : Judging s (turnTo v (.amp a .nopilot) c) := hv.trans (judging_turnTo ..)
  cases q with
  | true =>
    have hvoted : s.voted (.amp a .nopilot) judged = c := hcond.symm
    rw [if_pos rfl, State.voteAmp, forces_beside _ (hc _), markAmp_beside, vote_beside_afterMove hv hround (hc _), hvoted]
    dsimp only
    rw [afterMove_beside hnow hturned hround hdeads, placeAll_append]
    have hpush : ∀ w : State, w.push (CondId.amp a .nopilot).subject = { w with seq := w.seq.pushed (.amp a) } := fun w =>
      push_entry w (.amp a)
    rw [hpush, forcedIf, pushesIf, Bool.true_and, Bool.true_and]
    cases pushes (s.cond (.amp a .nopilot)) judged <;> rfl
  | false =>
    have hsame : c = s.cond (.amp a .nopilot) := hcond
    have hstill : turnTo v (.amp a .nopilot) c = v := by rw [hsame, ← hc, turnTo_cond]
    have hnone : entersActive s (.amp a .nopilot) c = false := by rw [hsame, entersActive_cond]
    have hleaves : leavesActive s (.amp a .nopilot) c = false := by rw [hsame, leavesActive_cond]
    have hmoved := attributedIf_beside (res := ampRecs s a r injected) (nq := nq) (seq := seq) (marks := marks) _ hnow
      hturned hround hdeads
    rw [hnone, hstill] at hmoved
    rw [hnone, hleaves, hstill, hsame, moveNotice_same, forcedIf, pushesIf, Bool.false_and, Bool.false_and, Bool.or_false,
      if_neg Bool.false_ne_true]
    rw [if_neg Bool.false_ne_true] at hmoved
    exact hmoved

end

/-! ## FREQ (R96) -/

/-- The judgement of the FREQ vote, where a count is present. -/
def freqVote (s : State) (r : AmpResult) : Vote := judgePeriod (r.count.getD 0) s.cfg.pilotD s.cfg.wide.freqTol

/-- Whether R96 has an amplifier's result count for FREQ, when its NOPILOT then stands at `nopilot`. -/
def freqCounts (r : AmpResult) (cls : AmpClass) (nopilot : Cond) : Bool :=
  decide (r.status = .valid) && decide (cls ≠ .nopilot) && r.count.isSome && !decide (nopilot.state = .active)

theorem freqCount_eq {r : AmpResult} {cls : AmpClass} (hcls : r.status = .valid → r.cls = some cls) :
    r.freqCount = if r.status = .valid ∧ cls ≠ .nopilot then r.count else none := by
  unfold AmpResult.freqCount
  by_cases hvalid : r.status = .valid
  · rw [hcls hvalid]
    cases cls <;> simp
  · simp [hvalid]

/-- A result that counts for FREQ clears a set first-count mark, and votes where it is clear. -/
theorem voteFreq_of_counts {w : State} {a : AmpId} {r : AmpResult} {cls : AmpClass} {nopilot : Cond}
    (hcls : r.status = .valid → r.cls = some cls) (hnopilot : w.cond (.amp a .nopilot) = nopilot)
    (h : freqCounts r cls nopilot = true) :
    w.voteFreq a r
      = if w.firstCount[a] then w.setFirstCount a false else w.voteAmp a .freq (freqVote w r) r.count := by
  simp only [freqCounts, Bool.and_eq_true, decide_eq_true_eq, Bool.not_eq_true', decide_eq_false_iff_not] at h
  obtain ⟨⟨⟨hvalid, hclass⟩, hsome⟩, hpilot⟩ := h
  obtain ⟨count, hcount⟩ := Option.isSome_iff_exists.mp hsome
  have hoff : w.noPilot a = false := by rw [State.noPilot, hnopilot]; simp [hpilot]
  rw [State.voteFreq, freqCount_eq hcls, if_pos ⟨hvalid, hclass⟩, freqVote, hcount]
  simp only [hoff, Bool.false_eq_true, if_false]
  rfl

/-- A result that does not count for FREQ leaves it and the mark alone. -/
theorem voteFreq_of_not_counts {w : State} {a : AmpId} {r : AmpResult} {cls : AmpClass} {nopilot : Cond}
    (hcls : r.status = .valid → r.cls = some cls) (hnopilot : w.cond (.amp a .nopilot) = nopilot)
    (h : freqCounts r cls nopilot = false) : w.voteFreq a r = w := by
  rw [State.voteFreq, freqCount_eq hcls]
  by_cases hclass : r.status = .valid ∧ cls ≠ .nopilot
  · rw [if_pos hclass]
    cases hcount : r.count with
    | none => rfl
    | some count =>
      have hon : w.noPilot a = true := by
        rw [State.noPilot, hnopilot]
        simpa [freqCounts, hclass.1, hclass.2, hcount] using h
      exact if_pos hon
  · rw [if_neg hclass]

/-- The FREQ vote of an amplifier's result: taken where the result counts and the mark is not set; a set mark is cleared in
its place. -/
theorem voteFreq_beside {s v : State} {nq : NoticeQueue} {seq : Seq} {marks : Vector Bool 8} {a : AmpId} {r : AmpResult}
    {cls : AmpClass} {c nopilot : Cond} {counts : Bool} (injected : Bool) (hcls : r.status = .valid → r.cls = some cls)
    (hnopilot : v.cond (.amp a .nopilot) = nopilot) (hcounts : counts = freqCounts r cls nopilot)
    (hcond : c = votedIf s (.amp a .freq) (counts && !marks[a]) (freqVote s r))
    (hv : Judging s v) (hround : seq.round = s.seq.round) (hc : v.cond (.amp a .freq) = s.cond (.amp a .freq)) :
    (beside v (ampRecs s a r injected) nq seq marks).voteFreq a r
      = beside (turnTo v (.amp a .freq) c)
          (ampRecs s a r (injected || forcedIf s (.amp a .freq) (counts && !marks[a])))
          (nq.placeAll (s.moveNotice (.amp a .freq) (s.cond (.amp a .freq)) c.state none r.count))
          (seq.pushedIf (pushesIf s (.amp a .freq) (counts && !marks[a]) (freqVote s r)) (.amp a))
          (if counts && marks[a] then marks.set a false else marks) := by
  have hvote := voteAmpIf_beside (nq := nq) (seq := seq) (marks := marks) r injected (k := .freq) (by decide)
    (counts && !marks[a]) hv hround hc (freqVote s r) r.count hcond
  have hpilot : (beside v (ampRecs s a r injected) nq seq marks).cond (.amp a .nopilot) = nopilot :=
    (cond_beside ..).trans hnopilot
  have hjudged : freqVote (beside v (ampRecs s a r injected) nq seq marks) r = freqVote s r :=
    congrArg (fun k : Settings => judgePeriod (r.count.getD 0) k.pilotD k.wide.freqTol) hv.cfg
  cases counts with
  | false =>
    rw [voteFreq_of_not_counts hcls hpilot hcounts.symm]
    exact hvote
  | true =>
    rw [voteFreq_of_counts hcls hpilot hcounts.symm, hjudged]
    have hmark : (beside v (ampRecs s a r injected) nq seq marks).firstCount[a] = marks[a] := rfl
    rw [hmark]
    cases hset : marks[a] with
    | true =>
      rw [hset] at hvote
      exact congrArg (State.setFirstCount · a false) hvote
    | false =>
      rw [hset] at hvote
      exact hvote

end Sys2Proof.Machine.Converter
end

section
/-! SUPPORT. A completed amplifier measurement up to the free report, and the obligation that the completions of amplifiers
and of REF replace their records, vote, hand over and report free. -/

namespace Sys2Proof.Machine.Converter

/-! ## Where a measurement leaves its amplifier (R95 to R98) -/

section
variable (s : State) (a : AmpId) (r : AmpResult) (cls : AmpClass)

/-- NOPILOT after an amplifier's result. -/
def ampNopilot : Cond :=
  votedIf s (.amp a .nopilot) (decide (r.status = .valid)) (if cls = .nopilot then .bad else .clean)

/-- Whether NOPILOT enters ACTIVE with an amplifier's result. -/
def ampEnters : Bool := entersActive s (.amp a .nopilot) (ampNopilot s a r cls)

/-- The first-count marks after the NOPILOT vote of an amplifier's result (R97). -/
def ampMarks : Vector Bool 8 := markedIf s.firstCount a (leavesActive s (.amp a .nopilot) (ampNopilot s a r cls))

/-- Whether an amplifier's result counts for FREQ (R96). -/
def ampCounts : Bool := freqCounts r cls (ampNopilot s a r cls)

/-- Whether an amplifier's result votes on FREQ (R96). -/
def ampFreqTaken : Bool := ampCounts s a r cls && !(ampMarks s a r cls)[a]

/-- Where an amplifier's result leaves the conditions. -/
def ampNow : CondId → Cond
  | .amp _ .nopilot => ampNopilot s a r cls
  | .amp _ .overload =>
    votedIf s (.amp a .overload) (decide (r.status = .valid)) (if cls = .overload then .bad else .clean)
  | .amp _ .freq => votedIf s (.amp a .freq) (ampFreqTaken s a r cls) (freqVote s r)
  | .amp _ .temp => s.voted (.amp a .temp) (contactVote r.thermal)
  | .amp _ .supply => s.voted (.amp a .supply) (contactVote r.supply)
  | .line l k => if k = .dead then deadAfter s (ampEnters s a r cls) a l else s.cond (.line l k)
  | .dev k => s.cond (.dev k)

theorem ampNow_temp : ampNow s a r cls (.amp a .temp) = s.voted (.amp a .temp) (contactVote r.thermal) := rfl

theorem ampNow_supply : ampNow s a r cls (.amp a .supply) = s.voted (.amp a .supply) (contactVote r.supply) := rfl

/-- Whether a vote from an amplifier's result is forced by an injection (R30). -/
def ampInjected : Bool :=
  forcedIf s (.amp a .nopilot) (decide (r.status = .valid)) || forcedIf s (.amp a .overload) (decide (r.status = .valid))
    || forcedIf s (.amp a .freq) (ampFreqTaken s a r cls) || forcedIf s (.amp a .temp) true
    || forcedIf s (.amp a .supply) true

/-- Whether an amplifier's result pushes its amplifier (R112). -/
def ampPush : Bool :=
  pushesIf s (.amp a .nopilot) (decide (r.status = .valid)) (if cls = .nopilot then .bad else .clean)
    || (pushesIf s (.amp a .overload) (decide (r.status = .valid)) (if cls = .overload then .bad else .clean)
      || (pushesIf s (.amp a .freq) (ampFreqTaken s a r cls) (freqVote s r)
        || (pushesIf s (.amp a .temp) true (contactVote r.thermal)
          || pushesIf s (.amp a .supply) true (contactVote r.supply))))

/-- The notice of a condition of an amplifier that its result moves. -/
def ampNotice (k : AmpKind) (value : Option Nat) : List Notice :=
  s.moveNotice (.amp a k) (s.cond (.amp a k)) (ampNow s a r cls (.amp a k)).state none value

/-- The notices of an amplifier's result in their order. -/
def ampNotices : List Notice :=
  (ampNotice s a r cls .nopilot none ++ if ampEnters s a r cls then s.attributedNotices a else [])
    ++ (ampNotice s a r cls .overload none
      ++ (ampNotice s a r cls .freq r.count ++ (ampNotice s a r cls .temp none ++ ampNotice s a r cls .supply none)))

end

section
variable {s v : State} {a : AmpId} {r : AmpResult} {cls : AmpClass}

theorem votePilot_eq (w : State) (hcls : r.status = .valid → r.cls = some cls) :
    w.votePilot a r
      = if decide (r.status = .valid) then
          (if decide (r.status = .valid) then w.voteAmp a .nopilot (if cls = .nopilot then .bad else .clean) none
            else w).voteAmp a .overload (if cls = .overload then .bad else .clean) none
        else if decide (r.status = .valid) then w.voteAmp a .nopilot (if cls = .nopilot then .bad else .clean) none else w := by
  unfold State.votePilot
  by_cases hvalid : r.status = .valid
  · simp only [hcls hvalid, hvalid, decide_true, if_true]
  · simp only [hvalid, decide_false, Bool.false_eq_true, if_false]
    split
    · contradiction
    · rfl

/-- A vote on a condition of an amplifier, NOPILOT apart, that is always taken. -/
theorem voteAmp_beside {nq : NoticeQueue} {seq : Seq} {marks : Vector Bool 8} {injected : Bool} {k : AmpKind}
    (hk : k ≠ .nopilot) (hv : Judging s v) (hround : seq.round = s.seq.round) (hc : v.cond (.amp a k) = s.cond (.amp a k))
    (judged : Vote) :
    (beside v (ampRecs s a r injected) nq seq marks).voteAmp a k judged none
      = beside (turnTo v (.amp a k) (s.voted (.amp a k) judged))
          (ampRecs s a r (injected || forcedIf s (.amp a k) true))
          (nq.placeAll (s.moveNotice (.amp a k) (s.cond (.amp a k)) (s.voted (.amp a k) judged).state none none))
          (seq.pushedIf (pushesIf s (.amp a k) true judged) (.amp a)) marks :=
  voteAmpIf_beside r injected hk true hv hround hc judged none rfl

/-- The votes that follow NOPILOT's, on conditions that have not moved since `s`. -/
theorem laterVotes_eq {nq : NoticeQueue} {seq : Seq} {injected : Bool} (hcls : r.status = .valid → r.cls = some cls)
    (hv : Judging s v) (hround : seq.round = s.seq.round) (hnopilot : v.cond (.amp a .nopilot) = ampNopilot s a r cls)
    (hother : ∀ k, k ≠ AmpKind.nopilot → v.cond (.amp a k) = s.cond (.amp a k)) :
    (State.voteFreq
        (if decide (r.status = .valid) then
          (beside v (ampRecs s a r injected) nq seq (ampMarks s a r cls)).voteAmp a .overload
            (if cls = .overload then .bad else .clean) none
        else beside v (ampRecs s a r injected) nq seq (ampMarks s a r cls)) a r).voteContacts a r
      = beside (v.movedInTurn (ampNow s a r cls) [.amp a .overload, .amp a .freq, .amp a .temp, .amp a .supply])
          (ampRecs s a r (injected || forcedIf s (.amp a .overload) (decide (r.status = .valid))
            || forcedIf s (.amp a .freq) (ampFreqTaken s a r cls) || forcedIf s (.amp a .temp) true
            || forcedIf s (.amp a .supply) true))
          (nq.placeAll (ampNotice s a r cls .overload none
            ++ (ampNotice s a r cls .freq r.count
              ++ (ampNotice s a r cls .temp none ++ ampNotice s a r cls .supply none))))
          (seq.pushedIf
            (pushesIf s (.amp a .overload) (decide (r.status = .valid)) (if cls = .overload then .bad else .clean)
              || (pushesIf s (.amp a .freq) (ampFreqTaken s a r cls) (freqVote s r)
                || (pushesIf s (.amp a .temp) true (contactVote r.thermal)
                  || pushesIf s (.amp a .supply) true (contactVote r.supply)))) (.amp a))
          (if ampCounts s a r cls && (ampMarks s a r cls)[a] then (ampMarks s a r cls).set a false
            else ampMarks s a r cls) := by
  have hstill : ∀ {w : State} {k j : AmpKind} {c : Cond}, j ≠ k → (turnTo w (.amp a k) c).cond (.amp a j) = w.cond (.amp a j) :=
    fun hne => by rw [cond_turnTo, if_neg (fun h => hne (by cases h; rfl))]
  have hover := voteAmpIf_beside (nq := nq) (seq := seq) (marks := ampMarks s a r cls) r injected (k := .overload) (by decide)
    (decide (r.status = .valid)) hv hround (hother _ (by decide)) (if cls = .overload then .bad else .clean) none
    (c := ampNow s a r cls (.amp a .overload)) rfl
  have hv2 := hv.trans (judging_turnTo v (.amp a .overload) (ampNow s a r cls (.amp a .overload)))
  have hv3 := hv2.trans (judging_turnTo _ (.amp a .freq) (ampNow s a r cls (.amp a .freq)))
  have hv4 := hv3.trans (judging_turnTo _ (.amp a .temp) (s.voted (.amp a .temp) (contactVote r.thermal)))
  rw [hover, voteFreq_beside (c := ampNow s a r cls (.amp a .freq)) (counts := ampCounts s a r cls) _ hcls
    ((hstill (by decide)).trans hnopilot) rfl rfl hv2 ((round_pushedIf ..).trans hround)
    ((hstill (by decide)).trans (hother _ (by decide)))]
  rw [State.voteContacts, voteAmp_beside (by decide) hv3 ((round_pushedIf ..).trans ((round_pushedIf ..).trans hround))
    ((hstill (by decide)).trans ((hstill (by decide)).trans (hother _ (by decide))))]
  rw [voteAmp_beside (by decide) hv4
    ((round_pushedIf ..).trans ((round_pushedIf ..).trans ((round_pushedIf ..).trans hround)))
    ((hstill (by decide)).trans ((hstill (by decide)).trans ((hstill (by decide)).trans (hother _ (by decide)))))]
  rw [← placeAll_append, ← placeAll_append, ← placeAll_append, pushedIf_or, pushedIf_or, pushedIf_or, movedInTurn_cons,
    movedInTurn_cons, movedInTurn_cons, movedInTurn_singleton]
  simp only [ampNotice, ampFreqTaken, ampNow_temp, ampNow_supply]

/-- The votes of an amplifier's result in their order, from the record written to the last contact. -/
theorem ampVotes_eq (hcls : r.status = .valid → r.cls = some cls) :
    (((beside s (ampRecs s a r false) s.nq s.seq s.firstCount).votePilot a r).voteFreq a r).voteContacts a r
      = beside (s.movedInTurn (ampNow s a r cls) (s.ampTurn a)) (ampRecs s a r (ampInjected s a r cls))
          (s.nq.placeAll (ampNotices s a r cls)) (s.seq.pushedIf (ampPush s a r cls) (.amp a))
          (if ampCounts s a r cls && (ampMarks s a r cls)[a] then (ampMarks s a r cls).set a false
            else ampMarks s a r cls) := by
  have hturn : s.ampTurn a
      = .amp a .nopilot :: (fedDeads s a allLines ++ [.amp a .overload, .amp a .freq, .amp a .temp, .amp a .supply]) := by
    simp [State.ampTurn, ampKinds, fedDeads]
  have hpilot := votePilotIf_beside (s := s) (v := s) (nq := s.nq) (seq := s.seq) (marks := s.firstCount) r false
    (decide (r.status = .valid)) (c := ampNopilot s a r cls) (now := ampNow s a r cls) rfl (fun _ => rfl) (.refl s) rfl
    fun _ => rfl
  rw [votePilot_eq _ hcls, hpilot, hturn, movedInTurn_cons, movedInTurn_append]
  have hother : ∀ k, k ≠ AmpKind.nopilot →
      ((turnTo s (.amp a .nopilot) (ampNopilot s a r cls)).movedInTurn (ampNow s a r cls) (fedDeads s a allLines)).cond
        (.amp a k) = s.cond (.amp a k) := fun k hk => by
    have hmem : CondId.amp a k ∉ fedDeads s a allLines := fun h => by
      obtain ⟨l, hl⟩ := mem_fedDeads h
      cases hl
    rw [cond_movedInTurn, if_neg hmem, cond_turnTo, if_neg (fun h => hk (by cases h; rfl))]
  have hnopilot : ((turnTo s (.amp a .nopilot) (ampNopilot s a r cls)).movedInTurn (ampNow s a r cls)
      (fedDeads s a allLines)).cond (.amp a .nopilot) = ampNopilot s a r cls := by
    have hmem : CondId.amp a .nopilot ∉ fedDeads s a allLines := fun h => by
      obtain ⟨l, hl⟩ := mem_fedDeads h
      cases hl
    rw [cond_movedInTurn, if_neg hmem, cond_turnTo, if_pos rfl]
  have hv : Judging s ((turnTo s (.amp a .nopilot) (ampNopilot s a r cls)).movedInTurn (ampNow s a r cls)
      (fedDeads s a allLines)) := (judging_turnTo ..).trans (judging_movedInTurn ..)
  change _ = beside (State.movedInTurn ((turnTo s (.amp a .nopilot) (ampNopilot s a r cls)).movedInTurn _ _) _ _) _ _ _ _
  generalize (turnTo s (.amp a .nopilot) (ampNopilot s a r cls)).movedInTurn (ampNow s a r cls) (fedDeads s a allLines) = v
    at hother hnopilot hv ⊢
  have hlater := laterVotes_eq (nq := s.nq.placeAll (ampNotice s a r cls .nopilot none
      ++ if ampEnters s a r cls then s.attributedNotices a else []))
    (seq := s.seq.pushedIf (pushesIf s (.amp a .nopilot) (decide (r.status = .valid))
      (if cls = .nopilot then .bad else .clean)) (.amp a))
    (injected := forcedIf s (.amp a .nopilot) (decide (r.status = .valid))) hcls hv (round_pushedIf ..) hnopilot hother
  rw [← placeAll_append, pushedIf_or] at hlater
  rw [Bool.false_or]
  exact hlater

end

end Sys2Proof.Machine.Converter
end

section
/-! SUPPORT. The figures of an amplifier measurement, its completion up to the free report, and the obligation about the
completions of amplifiers and of REF. -/

namespace Sys2Proof.Machine.Converter

/-! ## The figures of an amplifier measurement (R26, R28, R48, R49, R98) -/

theorem count?_afterBlock (c : PeriodCounter) : c.afterBlock.count? = c.count? := by cases c <;> rfl

theorem count?_eq (c : PeriodCounter) :
    c.count? = match c with | .done c => some c | .idle | .running _ | .gaveUp => none := by cases c <;> rfl

theorem counter_withBlock (m : Meas) (masked : Bool) (v i : Nat) : (m.withBlock masked v i).counter = m.counter := by
  cases masked <;> rfl

theorem readContact_eq (p : Polarity) (closed : Bool) :
    readContact p closed = if closed = decide (p = .normallyOpen) then .asserted else .released := by
  cases p <;> cases closed <;> rfl

theorem contactVote_eq (c : Contact) : contactVote c = if decide (c = .asserted) then .bad else .clean := by
  cases c <;> rfl

/-- The class of an amplifier measurement, whatever its status. -/
def ampClass (s : State) (m : Meas) : AmpClass := classifyAmp s.cfg.wide (meanCode m.sumV m.v) (meanCode m.sumI m.v)

theorem ampStatus_eq (s : State) (m : Meas) :
    s.ampStatus m = if m.v < m.sample / 2 then .masked else if s.refActive then .unreliable else .valid := by
  simp only [State.ampStatus, Meas.tooFew, decide_eq_true_eq]

theorem ampRecord_eq (s : State) (a : AmpId) (m : Meas) (th su : Bool) :
    s.ampRecord a m th su
      = { round := s.seq.round
          status := s.ampStatus m
          v := m.v
          meanV := if s.ampStatus m = .masked then none else some (meanCode m.sumV m.v)
          meanI := if s.ampStatus m = .masked then none else some (meanCode m.sumI m.v)
          cls := if s.ampStatus m = .masked then none else some (ampClass s m)
          clipped := m.clipped
          injected := false
          count := m.counter.count?
          thermal := readContact (s.amp a).polarity th
          supply := readContact (s.amp a).polarity su } := by
  change AmpResult.mk _ _ _ (if decide (s.ampStatus m ≠ .masked) then _ else _) _
    (if decide (s.ampStatus m ≠ .masked) then some (ampClass s m) else none) _ _ _ _ _ = _
  by_cases hmasked : s.ampStatus m = .masked <;> simp [hmasked]

theorem ampRecord_cls {s : State} {a : AmpId} {m : Meas} {th su : Bool} (h : (s.ampRecord a m th su).status = .valid) :
    (s.ampRecord a m th su).cls = some (ampClass s m) := by
  have hstatus : s.ampStatus m = .valid := h
  rw [ampRecord_eq]
  simp [hstatus]

theorem ampRecord_sampleBlock (s : State) (due : Nat) (a : AmpId) (m : Meas) (v i prog : Nat) (th su : Bool) :
    (s.waitUntil due).ampRecord a (s.sampleBlock m v i prog) th su
      = s.ampRecord a (m.withBlock (s.isMasked m.subject prog) v i) th su := by
  have hcount : (s.sampleBlock m v i prog).counter.count?
      = (m.withBlock (s.isMasked m.subject prog) v i).counter.count? := by
    rw [sampleBlock_eq, counter_withBlock]
    exact count?_afterBlock _
  rw [ampRecord_eq, ampRecord_eq, hcount, sampleBlock_eq]
  rfl

/-! ## The completion up to the free report (R27, R94, R95) -/

/-- The first-count marks after an amplifier's result (R96, R97). -/
def ampMarksAfter (s : State) (a : AmpId) (r : AmpResult) (cls : AmpClass) : Vector Bool 8 :=
  if ampCounts s a r cls && (ampMarks s a r cls)[a] then (ampMarks s a r cls).set a false else ampMarks s a r cls

/-- The state right before the free report of an amplifier measurement. -/
def ampDone (s : State) (due : Nat) (a : AmpId) (r : AmpResult) (cls : AmpClass) : State :=
  completed s due (ampNow s a r cls) (s.ampTurn a) (ampRecs s a r (ampInjected s a r cls))
    (s.nq.placeAll (ampNotices s a r cls)) (s.seq.pushedIf (ampPush s a r cls) (.amp a)) (ampMarksAfter s a r cls)

theorem completeAmp_eq (s : State) (due : Nat) (a : AmpId) (m : Meas) (v i prog : Nat) (th su : Bool) {b : Meas}
    (hb : m.withBlock (s.isMasked m.subject prog) v i = b) :
    (s.waitUntil due).completeAmp a (s.sampleBlock m v i prog) th su
      = ampDone s due a (s.ampRecord a b th su) (ampClass s b) := by
  have hvotes := ampVotes_eq (s := s.waitUntil due) (a := a) (r := s.ampRecord a b th su) (cls := ampClass s b)
    ampRecord_cls
  rw [State.completeAmp, ampRecord_sampleBlock, hb]
  exact congrArg State.releaseLconv hvotes

/-! ## Where the conditions and the marks then stand -/

theorem mem_ampTurn_amp (s : State) (a j : AmpId) (k : AmpKind) : CondId.amp j k ∈ s.ampTurn a ↔ j = a := by
  simp only [State.ampTurn, ampKinds, List.mem_flatMap, List.mem_cons]
  constructor
  · rintro ⟨x, -, heq | hmem⟩
    · cases heq; rfl
    · split at hmem
      · obtain ⟨l, -, hl⟩ := List.mem_map.mp hmem
        cases hl
      · cases hmem
  · rintro rfl
    exact ⟨k, by cases k <;> simp, .inl rfl⟩

theorem mem_ampTurn_dev (s : State) (a : AmpId) (k : DevKind) : ¬CondId.dev k ∈ s.ampTurn a := by
  simp [State.ampTurn, ampKinds]

theorem mem_ampTurn_line (s : State) (a : AmpId) (l : LineId) (k : LineKind) :
    CondId.line l k ∈ s.ampTurn a ↔ k = .dead ∧ (s.line l).amp = a := by
  simp only [State.ampTurn, ampKinds, List.mem_flatMap, List.mem_cons]
  constructor
  · rintro ⟨x, -, heq | hmem⟩
    · cases heq
    · split at hmem
      · obtain ⟨j, hj, heq⟩ := List.mem_map.mp hmem
        cases heq
        exact ⟨rfl, by simpa using (List.mem_filter.mp hj).2⟩
      · cases hmem
  · rintro ⟨rfl, hfeeds⟩
    have hfed : l ∈ allLines.filter fun l => decide ((s.line l).amp = a) :=
      List.mem_filter.mpr ⟨List.mem_finRange l, by simpa using hfeeds⟩
    exact ⟨.nopilot, .inl rfl, .inr (by rw [if_pos rfl]; exact List.mem_map_of_mem hfed)⟩

section
variable (s : State) (due : Nat) (a : AmpId) (r : AmpResult) (cls : AmpClass)

theorem cond_ampDone_amp (k : AmpKind) : (ampDone s due a r cls).cond (.amp a k) = ampNow s a r cls (.amp a k) := by
  rw [ampDone, cond_completed, if_pos ((mem_ampTurn_amp ..).mpr rfl)]

theorem cond_ampDone_other {j : AmpId} (h : j ≠ a) (k : AmpKind) :
    (ampDone s due a r cls).cond (.amp j k) = s.cond (.amp j k) := by
  rw [ampDone, cond_completed, if_neg (mt (mem_ampTurn_amp ..).mp h)]

theorem cond_ampDone_dev (k : DevKind) : (ampDone s due a r cls).cond (.dev k) = s.cond (.dev k) := by
  rw [ampDone, cond_completed, if_neg (mem_ampTurn_dev s a k)]

/-- A line's condition after an amplifier's result: DEAD where the attribution empties it. -/
theorem cond_ampDone_line (l : LineId) (k : LineKind) :
    (ampDone s due a r cls).cond (.line l k)
      = if k = .dead ∧ (s.line l).amp = a ∧ ampEnters s a r cls = true ∧ (s.line l).state ≠ .off
          ∧ (s.cond (.line l k)).state ≠ .clear
        then (s.cond (.line l k)).emptied s.seq.round else s.cond (.line l k) := by
  rw [ampDone, cond_completed]
  by_cases hfed : k = .dead ∧ (s.line l).amp = a
  · rw [if_pos ((mem_ampTurn_line ..).mpr hfed)]
    obtain ⟨rfl, hfeeds⟩ := hfed
    simp [ampNow, deadAfter, hfeeds]
  · rw [if_neg (mt (mem_ampTurn_line ..).mp hfed), if_neg (fun h => hfed ⟨h.1, h.2.1⟩)]

theorem ampConds_ext {c d : AmpConds} (h : ∀ k, c.get k = d.get k) : c = d := by
  cases c
  cases d
  congr
  exacts [h .nopilot, h .overload, h .freq, h .temp, h .supply]

theorem devConds_ext {c d : DevConds} (h : ∀ k, c.get k = d.get k) : c = d := by
  cases c
  cases d
  congr
  exacts [h .ref, h .bridge, h .config]

theorem ampConds_eq_of_conds {t : State} {j : AmpId} (h : ∀ k, t.cond (.amp j k) = s.cond (.amp j k)) :
    t.recs.ampConds[j] = s.recs.ampConds[j] :=
  ampConds_ext h

theorem devConds_eq_of_conds {t : State} (h : ∀ k, t.cond (.dev k) = s.cond (.dev k)) :
    t.recs.devConds = s.recs.devConds := devConds_ext h

theorem noPilot_ampDone : (ampDone s due a r cls).noPilot a = decide ((ampNopilot s a r cls).state = .active) := by
  rw [State.noPilot, cond_ampDone_amp]
  rfl

theorem ampEnters_eq : ampEnters s a r cls = (!s.noPilot a && (ampDone s due a r cls).noPilot a) := by
  rw [noPilot_ampDone]
  rfl

theorem ampMarks_eq :
    (ampMarks s a r cls)[a] = (s.firstCount[a] || (s.noPilot a && !(ampDone s due a r cls).noPilot a)) := by
  have hleaves : leavesActive s (.amp a .nopilot) (ampNopilot s a r cls)
      = (s.noPilot a && !(ampDone s due a r cls).noPilot a) := by
    rw [noPilot_ampDone]
    rfl
  rw [ampMarks, markedIf, ← hleaves]
  cases leavesActive s (.amp a .nopilot) (ampNopilot s a r cls) <;> simp

theorem ampMarksAfter_eq (j : AmpId) :
    (ampMarksAfter s a r cls)[j]
      = if j = a then (ampMarks s a r cls)[a] && !ampCounts s a r cls else s.firstCount[j] := by
  by_cases hj : j = a
  · subst hj
    rw [if_pos rfl, ampMarksAfter]
    cases ampCounts s j r cls <;> cases hset : (ampMarks s j r cls)[j] <;> simp [hset]
  · have hne : (a : Nat) ≠ j := Fin.val_ne_of_ne (Ne.symm hj)
    have hmarks : (ampMarks s a r cls)[j] = s.firstCount[j] := by
      unfold ampMarks markedIf
      split <;> simp [hne]
    rw [if_neg hj, ampMarksAfter, ← hmarks]
    split <;> simp [hne]

theorem pushes_ite (c : Cond) (isBad : Bool) :
    pushes c (if isBad then .bad else .clean) = ((isBad || c.injection.isSome) && decide (c.state = .clear)) := by
  cases isBad <;> rfl

end

end Sys2Proof.Machine.Converter
end

section
/-! SUPPORT. The obligation about the completions of amplifiers and of REF. -/

namespace Sys2Proof.Machine.Converter

/-- The notices of an amplifier's result, in the order of Table 7.1. -/
theorem ampNotices_eq (s : State) (a : AmpId) (r : AmpResult) (cls : AmpClass) :
    ampNotices s a r cls
      = ampKinds.flatMap fun k =>
          ampNotice s a r cls k (if k = .freq then r.count else none)
            ++ if k = .nopilot ∧ ampEnters s a r cls = true then s.attributedNotices a else [] := by
  simp [ampNotices, ampKinds]

/-- The push of an amplifier's result, over what is BAD in it. -/
theorem ampPush_eq (s : State) (a : AmpId) (r : AmpResult) (cls : AmpClass) {freqBad : Bool} {first : AmpKind → Bool → Bool}
    (hfreq : freqVote s r = if freqBad then .bad else .clean)
    (hfirst : ∀ k isBad, first k isBad
      = ((isBad || (s.cond (.amp a k)).injection.isSome) && decide ((s.cond (.amp a k)).state = .clear))) :
    ampPush s a r cls
      = ((decide (r.status = .valid)
            && (first .nopilot (decide (cls = .nopilot)) || first .overload (decide (cls = .overload))))
          || (ampCounts s a r cls && !(ampMarks s a r cls)[a] && first .freq freqBad)
          || first .temp (decide (r.thermal = .asserted)) || first .supply (decide (r.supply = .asserted))) := by
  have hpush : ∀ k q isBad, pushesIf s (.amp a k) q (if isBad then .bad else .clean) = (q && first k isBad) := fun k q isBad => by
    rw [pushesIf, pushes_ite, hfirst]
  have hpilot := hpush .nopilot (decide (r.status = .valid)) (decide (cls = .nopilot))
  have hover := hpush .overload (decide (r.status = .valid)) (decide (cls = .overload))
  simp only [decide_eq_true_eq] at hpilot hover
  rw [ampPush, hpilot, hover, hfreq, contactVote_eq, contactVote_eq, hpush, hpush, hpush, ampFreqTaken, Bool.and_or_distrib_left]
  simp only [Bool.true_and, Bool.or_assoc]

theorem reported_ampDone (s : State) (due : Nat) (a : AmpId) (r : AmpResult) (cls : AmpClass) (order : RaceOrder) :
    Reported s (ampDone s due a r cls) ((ampDone s due a r cls).freeReport order) due (s.ampTurn a)
      (ampRecs s a r (ampInjected s a r cls)) (s.nq.placeAll (ampNotices s a r cls))
      (s.seq.pushedIf (ampPush s a r cls) (.amp a)) (ampMarksAfter s a r cls) order :=
  reported_completed s due _ _ _ _ order rfl (seqState_pushedIf ..)

/-- Settles O54: an amplifier's completion is `ampDone` and REF's is one turn of its condition, and the free report ends
both. -/
theorem amplifierAndReferenceComplete : Obligations.AmplifierAndReferenceComplete := by
  unfold Obligations.AmplifierAndReferenceComplete
  intro s m vc ic pc th su order hm hs hn
  have hexec := exec_lastSampleBlock vc ic pc th su order hm hs hn
  refine ⟨fun a hsub => ?_, fun hsub => ?_⟩
  · intro w round b meanV meanI cls status count contact vote injected first
    have hsubject : (s.sampleBlock m vc.val ic.val pc.val).subject = .amp a := (subject_sampleBlock ..).trans hsub
    have hb : m.withBlock (s.isMasked m.subject pc.val) vc.val ic.val = b := by rw [hsub]; rfl
    have hcls : ampClass s b = cls := rfl
    have hstatus : s.ampStatus b = status := by rw [ampStatus_eq, sample_withBlock]
    have hcount : b.counter.count? = count :=
      (congrArg PeriodCounter.count? (counter_withBlock ..)).trans (count?_eq m.counter)
    have hcontact : ∀ closed, readContact (s.amp a).polarity closed = contact closed := fun closed => readContact_eq ..
    have hrecord := ampRecord_eq s a b th su
    rw [hstatus, hcls, hcount, hcontact, hcontact] at hrecord
    rw [State.complete, hsubject] at hexec
    dsimp only at hexec
    rw [completeAmp_eq s (s.blockDue m) a m _ _ _ th su hb, hcls] at hexec
    have hdone := reported_ampDone s (s.blockDue m) a (s.ampRecord a b th su) cls order
    generalize s.ampRecord a b th su = r at hrecord hexec hdone
    have hrstatus : r.status = status := by rw [hrecord]
    have hrcount : r.count = count := by rw [hrecord]
    have hrthermal : r.thermal = contact th := by rw [hrecord]
    have hrsupply : r.supply = contact su := by rw [hrecord]
    generalize ht : (ampDone s (s.blockDue m) a r cls).freeReport order = t at hexec hdone
    have hcond : ∀ k, t.cond (.amp a k) = ampNow s a r cls (.amp a k) := fun k =>
      (hdone.cond _).trans (cond_ampDone_amp ..)
    have hpilot : t.noPilot a = (ampDone s (s.blockDue m) a r cls).noPilot a :=
      congrArg (fun c : Cond => decide (c.state = .active)) (hdone.cond (.amp a .nopilot))
    have henters : ampEnters s a r cls = (!s.noPilot a && t.noPilot a) := by rw [hpilot, ← ampEnters_eq]
    have hmark : (ampMarks s a r cls)[a] = (s.firstCount[a] || (s.noPilot a && !t.noPilot a)) := by
      rw [hpilot, ← ampMarks_eq]
    have hcounts : ampCounts s a r cls
        = (decide (status = .valid) && decide (cls ≠ .nopilot) && count.isSome && !t.noPilot a) := by
      rw [hpilot, noPilot_ampDone, ampCounts, freqCounts, hrstatus, hrcount]
    have hfreq : freqVote s r
        = if decide (w.freqTol < ((count.getD 0 : Int) - 16 * (s.cfg.pilotD : Int)).natAbs) then .bad else .clean := by
      rw [freqVote, hrcount, judgePeriod]
      simp only [decide_eq_true_eq]
      rfl
    refine ⟨_, t, hexec, hdone.clock, ?_, ?_, ?_, ?_, hdone.told, hdone.lineRes, hdone.refRes, hdone.minMax, hdone.maskedRun,
      ?_, hdone.cfg, hdone.learn, hdone.after⟩
    · intro mark counts freqBad
      have htaken : ampFreqTaken s a r cls = (counts && !mark) := by rw [ampFreqTaken, hcounts, hmark]
      refine ⟨?_, ?_, ?_, ?_, ?_, ?_, fun j => ?_, ?_⟩
      · have hinjected : ampInjected s a r cls
            = ((decide (status = .valid) && (injected .nopilot || injected .overload))
              || (counts && !mark && injected .freq) || injected .temp || injected .supply) := by
          simp only [ampInjected, forcedIf, Bool.true_and, htaken, hrstatus, Bool.and_or_distrib_left]
          rfl
        rw [hdone.ampRes, ampRecs, hinjected, hrecord]
        rfl
      · rw [hcond, ← hrstatus]
        simp only [ampNow, ampNopilot, votedIf, vote, decide_eq_true_eq]
        rfl
      · rw [hcond, ← hrstatus]
        simp only [ampNow, votedIf, vote, decide_eq_true_eq]
        rfl
      · rw [hcond, ampNow, hfreq, htaken]
        rfl
      · rw [hcond, ampNow_temp, contactVote_eq, hrthermal]
        rfl
      · rw [hcond, ampNow_supply, contactVote_eq, hrsupply]
        rfl
      · rw [hdone.firstCount, ampMarksAfter_eq, hmark, hcounts]
      · rw [hdone.seq, ampPush_eq s a r cls hfreq (first := first) (fun _ _ => rfl), hcounts, hmark, hrstatus, hrthermal,
          hrsupply]
    · intro j hj
      exact ampConds_eq_of_conds s fun k => (hdone.cond _).trans (cond_ampDone_other s _ a r cls hj k)
    · intro l k
      rw [hdone.cond, cond_ampDone_line, henters]
      simp only [Bool.and_eq_true, Bool.not_eq_true', and_assoc]
      rfl
    · rw [hdone.nq, ampNotices_eq, hrcount, henters]
      simp only [ampNotice, ← hcond, Bool.and_eq_true, Bool.not_eq_true']
    · exact devConds_eq_of_conds s fun k => (hdone.cond _).trans (cond_ampDone_dev ..)
  · intro b meanV meanI out judged
    have hsubject : (s.sampleBlock m vc.val ic.val pc.val).subject = .ref := (subject_sampleBlock ..).trans hsub
    have hb : m.withBlock (s.isMasked m.subject pc.val) vc.val ic.val = b := by rw [hsub]; rfl
    have hrecord : s.refRecord (s.sampleBlock m vc.val ic.val pc.val) = s.refRecord b := by
      rw [sampleBlock_eq, hb]
      rfl
    have hcls : (s.refRecord b).cls = some (if out then .out else .normal) := congrArg some (classifyRef_eq meanV meanI)
    have hjudged : judged = if (s.refRecord b).cls = some .out then .bad else .clean := by
      rw [hcls]
      change (if out then Vote.bad else .clean) = _
      cases out <;> rfl
    rw [State.complete, hsubject] at hexec
    dsimp only at hexec
    rw [completeRef_eq s (s.blockDue m) _ (fun _ => s.voted (.dev .ref) judged) (by rw [hrecord]; exact hjudged) rfl,
      hrecord] at hexec
    have hdone := reported_completed s (s.blockDue m) (fun _ => s.voted (.dev .ref) judged) [.dev .ref]
      (res := { s.recs with refRes := s.refRecord b }) (s.nqAfterVote (.dev .ref) judged none) s.firstCount order rfl
      (seq := s.seq) rfl
    refine ⟨_, _, hexec, hdone.clock, ?_, fun id => ?_, hdone.nq, hdone.seq, hdone.told, hdone.lineRes, hdone.ampRes,
      hdone.minMax, hdone.maskedRun, hdone.firstCount, hdone.cfg, hdone.learn, hdone.after⟩
    · rw [hdone.refRes, ← hcls]
      rfl
    · rw [hdone.cond, cond_completed]
      by_cases hid : id = .dev .ref
      · rw [if_pos (List.mem_singleton.mpr hid), if_pos hid, hid]
        rfl
      · rw [if_neg (mt List.mem_singleton.mp hid), if_neg hid]

end Sys2Proof.Machine.Converter
end

section
/-! SUPPORT. LEARN and a completed line result: what handing the result over does to the learning record, said once for each
way it can go, and the obligation about what is collected, counted or ends the learning. -/

namespace Sys2Proof.Machine.Leakage

open Converter

/-- A new reference leaves the standing of every subject. -/
theorem sameStanding_setZref (s : State) (l : LineId) (zref : Option Nat) : SameStanding s (s.setZref l zref) :=
  LearnFrame.standing ⟨rfl, ⟨zref, rfl⟩, ⟨s.learn[l], (Vector.set_getElem_self _).symm⟩⟩

/-- LEARN's notice looks at the standing of its line alone (R144). -/
theorem notice_learn_congr {s u : State} (h : SameStanding s u) (hround : u.seq.round = s.seq.round) (l : LineId)
    (ev : Event) (cause : Option Cause) (value : Option Nat) (test : Bool) :
    u.notice (.line l) .learn ev cause value test = s.notice (.line l) .learn ev cause value test := by
  simp only [State.notice, State.noticeLevel, State.kindLevel, h.inEmergency, hround]

/-- A learning that completes has nothing to empty in HIGHZ and LOWZ where they hold nothing (R118, R137). -/
theorem completeLearning_of_empty {s : State} {l : LineId} (h : RefEmpty s l) (r : LearnRec) :
    s.completeLearning l r
      = if r.spreadOk then
          { s.setZref l (some (candidateZref r.sumZ r.target)) with
            learn := s.learn.set l none
            nq := s.nq.place (s.notice (.line l) .learn .learnDone none (some (candidateZref r.sumZ r.target)) false) }
        else s.failLearning l .spread := by
  have hempty : RefEmpty (s.setZref l (some (candidateZref r.sumZ r.target))) l := h
  unfold State.completeLearning
  dsimp only
  rw [emptyRef_of_empty hempty, ← notice_learn_congr (sameStanding_setZref s l (some (candidateZref r.sumZ r.target))) rfl]
  rfl

/-- HIGHZ and LOWZ of a learning line hold nothing (R118). -/
theorem refEmpty_of_learning {s : State} {l : LineId} {r : LearnRec} (hgate : ReferenceGated s) (h : s.learn[l] = some r) :
    RefEmpty s l :=
  hgate.empty l (by simp [State.refVotes, h])

section
variable {s : State} {l : LineId} {r : LearnRec} {res : LineResult} (hlearn : s.learn[l] = some r)
include hlearn

/-- A VALID OPEN, SHORT or DEAD ends the learning (R135). -/
theorem handLearn_of_fault (hvalid : res.status = .valid)
    (hcls : res.cls = some .opn ∨ res.cls = some .short ∨ res.cls = some .dead) :
    s.handLearn l res = s.failLearning l .fault := by
  obtain hcls | hcls | hcls := hcls <;> simp only [State.handLearn, hlearn, hvalid, hcls]

/-- A result that is not VALID counts as an attempt alone (R133). -/
theorem handLearn_of_not_valid (hvalid : res.status ≠ .valid) : s.handLearn l res = s.learnWaits l r.attempt := by
  cases hstatus : res.status with
  | valid => exact absurd hstatus hvalid
  | masked | unreliable | suppressed => simp only [State.handLearn, hlearn, hstatus]

/-- A VALID NORMAL, HIGH or LOW is collected, and completes the learning at the target count (R134). -/
theorem handLearn_of_collected {z : Nat} (hvalid : res.status = .valid)
    (hcls : res.cls = some .normal ∨ res.cls = some .high ∨ res.cls = some .low) (hz : res.z = some z) :
    s.handLearn l res
      = if r.target ≤ r.collected + 1 then s.completeLearning l (r.attempt.collect z)
        else s.learnWaits l (r.attempt.collect z) := by
  obtain hcls | hcls | hcls := hcls <;> simp only [State.handLearn, hlearn, hvalid, hcls, hz] <;> rfl

end

/-- Settles O55, a case each for a fault, for a result that is not VALID, and for a collected one. -/
theorem learningCollectsAndEnds : Obligations.LearningCollectsAndEnds := by
  unfold Obligations.LearningCollectsAndEnds
  intro s l r0 res hgate hlearn notice failed waits r
  refine ⟨fun hvalid hcls => handLearn_of_fault hlearn hvalid hcls, fun hvalid => handLearn_of_not_valid hlearn hvalid, ?_⟩
  intro z hvalid hcls hz lo hi c zref
  have hspread : (r0.attempt.collect z).spreadOk = decide ((hi - lo) * 1000 ≤ c.sumZ / c.target * 50) := rfl
  rw [handLearn_of_collected hlearn hvalid hcls hz, completeLearning_of_empty (refEmpty_of_learning hgate hlearn), hspread]
  simp only [decide_eq_true_eq]
  rfl

end Sys2Proof.Machine.Leakage
end

section
/-! SUPPORT. CLEAR-MINMAX: its payload, the figures it clears, how a frame is answered in STARTING, and the obligation that
the figures named take their clear values. -/

namespace Sys2Proof.Machine.Leakage

open Converter

/-! ## The payload (R56, R161) -/

theorem parseClearMinmax_item (b : Byte) :
    parseClearMinmax [1, 1, b] = if h : b.toNat < 24 then some [⟨b.toNat, h⟩] else none := by
  have hitems : parseItems clearMinmaxItems [1, 1, b] = some [(1, [b])] := rfl
  have hvalue : itemValue [(1, [b])] 1 = some b.toNat := by simp [itemValue, findItem, bigEndian]
  simp only [parseClearMinmax, hitems, Option.bind_eq_bind, Option.bind_some, selectorField, hvalue]
  by_cases hline : b.toNat < 24 <;> simp [hline]

/-! ## The figures (R54, R55, R56) -/

/-- The first impedance below the clear value becomes both figures. -/
theorem enter_cleared {z : Nat} (hz : z ≤ 65534) : MinMax.cleared.enter z = { minZ := z, maxZ := z } := by
  rw [minMax_enter_eq, show MinMax.cleared = { minZ := 65535, maxZ := 0 } from rfl]
  simp only [Nat.zero_max, Nat.min_eq_right (hz.trans (by decide : 65534 ≤ 65535))]

/-- The figures of every line, those of the lines listed at their clear values. -/
def clearedFigures (figures : Vector MinMax 24) (ls : List LineId) : Vector MinMax 24 :=
  ls.foldl (fun (v : Vector MinMax 24) (l : LineId) => v.set l MinMax.cleared) figures

theorem getElem_clearedFigures (figures : Vector MinMax 24) (ls : List LineId) (l : LineId) :
    (clearedFigures figures ls)[l] = if l ∈ ls then MinMax.cleared else figures[l] := by
  induction ls generalizing figures with
  | nil => simp [clearedFigures]
  | cons i ls ih =>
    rw [clearedFigures, List.foldl_cons, ← clearedFigures, ih]
    by_cases hl : l = i
    · simp [hl]
    · simp [hl, Fin.val_ne_of_ne (Ne.symm hl)]

/-- CLEAR-MINMAX on the lines listed writes the figures alone. -/
theorem foldl_clearMinMax (s : State) (ls : List LineId) :
    ls.foldl State.clearMinMax s
      = { s with recs := { s.recs with minMax := clearedFigures s.recs.minMax ls } } := by
  induction ls generalizing s with
  | nil => rfl
  | cons l ls ih => exact ih (s.clearMinMax l)

/-- CLEAR-MINMAX's decision does not look at the port its frame came in on. -/
theorem clearMinmaxAct_hunt (ls : List LineId) (s : State) (p : Port) :
    clearMinmaxAct ls (s.hunt p)
      = (({ s with recs := { s.recs with minMax := clearedFigures s.recs.minMax ls } } : State).hunt p, .bare .done) := by
  rw [clearMinmaxAct, foldl_clearMinMax]
  cases p <;> rfl

/-! ## How the frame is delivered (R56, R156, R158) -/

/-- In STARTING a unit-addressed frame of every kind but IDENTIFY is answered STARTING (R158). -/
theorem deliver_of_starting {s : State} {p : Port} {dest kind : Byte} {payload : List Byte}
    (unit : State → State × Answer) (multi : State → State) (hpower : s.poweredUp = true)
    (hphase : s.boot.phase = .starting) (hfree : (s.port p).held = none) (hdest : dest.toNat = s.straps.unit)
    (hlen : payload.length ≤ 200) (hkind : kind ≠ identifyKind) :
    s.deliver p dest kind payload unit multi
      = s.answered p kind { status := .starting, view := .live, content := .empty } none := by
  have hphase' : (s.hunt p).boot.phase = .starting := by rw [State.hunt, State.setPort_boot, hphase]
  have htake : (s.hunt p).takeUnit p kind unit = (s.hunt p).holdFrame p kind .live (.bare .starting) :=
    if_pos ⟨hphase', hkind⟩
  simp only [State.deliver, s.hears_of_free p hpower hfree, Nat.not_lt.mpr hlen, State.delivery, hdest, hfree, htake,
    if_true, if_false, Option.isSome_none, Bool.false_eq_true]
  exact s.holdFrame_hunt ..

/-- A group or broadcast frame of a kind that only a unit-addressed frame may have is ignored (R156). -/
theorem deliver_of_takesMulti_unitKind {s : State} {p : Port} {dest kind : Byte} {payload : List Byte}
    (unit : State → State × Answer) (multi : State → State) (h : s.takesMulti p dest) (hlen : payload.length ≤ 200)
    (hkind : multicastKind kind = false) : s.deliver p dest kind payload unit multi = s.hunt p := by
  obtain ⟨hpower, -, hfree, -, hdest⟩ := h
  have hignored : s.delivery dest kind = .ignored := by simp [State.delivery, hdest, hkind]
  exact s.deliver_of_ignored p dest kind payload unit multi (s.hears_of_free p hpower hfree) hlen hignored

/-- A CLEAR-MINMAX that is taken acts where its payload parses, and is answered without content either way. -/
theorem exec_clearMinmax {s : State} {p : Port} {dest : Byte} {payload : List Byte} (h : s.takes p dest)
    (hlen : payload.length ≤ 200) :
    exec (.clearMinmax p dest payload) s
      = .next ((parsed (parseClearMinmax payload) (s.hunt p) clearMinmaxAct).1.holdFrame p 0x45 .live
          (parsed (parseClearMinmax payload) (s.hunt p) clearMinmaxAct).2) :=
  congrArg Host.Outcome.next (s.deliver_of_takes p dest 0x45 payload _ id h hlen)

/-- Settles O43: the payload, the figures that an impedance enters after it, and the four ways the frame is delivered. -/
theorem clearMinmaxClearsFigures : Obligations.ClearMinmaxClearsFigures := by
  unfold Obligations.ClearMinmaxClearsFigures
  refine ⟨rfl, parseClearMinmax_item, fun z hz => enter_cleared hz, fun s p dest pl hlen => ?_⟩
  refine ⟨fun htakes => ⟨fun hparse => ?_, fun ls hparse => ⟨clearedFigures s.recs.minMax ls, ?_, fun l => ?_⟩⟩, ?_, ?_⟩
  · rw [exec_clearMinmax htakes hlen, hparse]
    exact congrArg Host.Outcome.next (s.holdFrame_hunt ..)
  · rw [exec_clearMinmax htakes hlen, hparse, parsed, clearMinmaxAct_hunt]
    exact congrArg Host.Outcome.next (State.holdFrame_hunt ..)
  · exact getElem_clearedFigures ..
  · intro hpower hphase hfree hdest
    exact congrArg Host.Outcome.next (deliver_of_starting _ _ hpower hphase hfree hdest hlen (by decide))
  · intro hmulti
    exact congrArg Host.Outcome.next (deliver_of_takesMulti_unitKind _ _ hmulti hlen rfl)

end Sys2Proof.Machine.Leakage
end

section
/-! SUPPORT. EBRG's choice in the words of the statements, the completion of an earth test as one turn of EARTH with its
record beside it, and the obligation about leakage blocks. -/

namespace Sys2Proof.Machine.Leakage

open Converter

/-! ## The choice (R80, R81) -/

theorem choose_idle {s : State}
    (h : ¬(s.cfg.earth.supervision = true ∧ s.boot.phase = .running) ∨ s.nextOnWalk = none) :
    s.choose = s.setMode .idle := by
  unfold State.choose
  split
  · next hon => rw [h.resolve_left (not_not.mpr hon)]
  · rfl

theorem choose_line {s : State} {l : LineId} (hsupervised : s.cfg.earth.supervision = true)
    (hrunning : s.boot.phase = .running) (hnext : s.nextOnWalk = some l) :
    s.choose
      = { s with
          ebrg := { s.ebrg with
            walk := l + 1
            mode := if s.lineInFlight = some l then .waiting l
              else .soaking
                { line := l, soak := s.cfg.earth.soak, ne := s.cfg.earth.ne, biasOn := s.clock, blocks := 0, sumL := 0
                  saturated := false, blockStart := s.clock } } } := by
  rw [State.choose, if_pos ⟨hsupervised, hrunning⟩, hnext]
  by_cases hmeasured : s.lineInFlight = some l
  · rw [if_pos hmeasured]
    exact startTest_measured hmeasured
  · rw [if_neg hmeasured]
    exact startTest_free hmeasured

theorem nextOnWalk_none {s : State} (h : ∀ l, (s.line l).state = .off) : s.nextOnWalk = none := by
  rw [State.nextOnWalk, List.find?_eq_none]
  intro l _
  simp [isOff_line, h l]

/-- The walk stops at the first line from its position on that is not OFF. -/
theorem nextOnWalk_some {s : State} {d : LineId}
    (hbefore : ∀ j : LineId, j < d → (s.line (s.ebrg.walk + j)).state = .off)
    (hon : (s.line (s.ebrg.walk + d)).state ≠ .off) : s.nextOnWalk = some (s.ebrg.walk + d) := by
  rw [State.nextOnWalk, List.find?_eq_some_iff_getElem]
  refine ⟨by simp [isOff_line, hon], d, by simp [allLines], by simp [allLines], fun j hj => ?_⟩
  have hoff := hbefore ⟨j, hj.trans d.isLt⟩ hj
  simp [allLines, isOff_line, hoff]

theorem choose_lastBias (s : State) : s.choose.ebrg.lastBias = s.ebrg.lastBias := by
  unfold State.choose
  split
  · split
    · next l _ =>
      obtain ⟨m, heq, -⟩ := startTest_cases { s with ebrg := { s.ebrg with walk := l + 1 } } l
      rw [heq]
      rfl
    · rfl
  · rfl

theorem choiceMade_choose (s : State) : ChoiceMade s s.choose.ebrg s.clock := by
  refine ⟨fun hnone => ?_, fun hsupervised hrunning d hbefore hon => ?_⟩
  · have hidle : ¬(s.cfg.earth.supervision = true ∧ s.boot.phase = .running) ∨ s.nextOnWalk = none := by
      obtain hoff | hstarting | hlines := hnone
      · exact .inl (by simp [hoff])
      · exact .inl (by simp [hstarting])
      · exact .inr (nextOnWalk_none hlines)
    rw [choose_idle hidle]
    exact ⟨rfl, rfl⟩
  · rw [choose_line hsupervised hrunning (nextOnWalk_some hbefore hon)]
    exact ⟨rfl, rfl⟩

/-! ## The record and the vote of an earth test (R50, R51, R85, R86, R115) -/

theorem seqAfterVote_line (s : State) (l : LineId) (k : LineKind) (judged : Vote) :
    s.seqAfterVote (.line l k) judged = s.seq.pushedIf (pushes (s.cond (.line l k)) judged) (.line l) := by
  unfold State.seqAfterVote Seq.pushedIf pushes
  simp only [Bool.and_eq_true, Bool.or_eq_true, decide_eq_true_eq]
  rfl

/-- The judgement of a completed earth test (R51). -/
def earthVote (s : State) (t : EarthTest) : Vote :=
  judgeEarth (leakageR t.sumL t.ne) (s.lineProfile t.line).earthThreshold t.saturated

/-- The record of a completed earth test with its INJECTED flag (R86): the vote is a VALID record's alone. -/
def earthResult (s : State) (t : EarthTest) : EarthResult :=
  { s.earthRecord t with injected := decide (s.refActive = false) && (s.cond (.line t.line .earth)).injection.isSome }

theorem earthResult_eq (s : State) (t : EarthTest) :
    earthResult s t
      = { round := s.seq.round, status := if s.refActive = false then .valid else .unreliable
          r := some (leakageR t.sumL t.ne), bias := s.ebrg.lastBias, ne := some t.ne, saturated := t.saturated
          injected := decide (s.refActive = false) && (s.cond (.line t.line .earth)).injection.isSome } := by
  unfold earthResult State.earthRecord
  cases s.refActive <;> rfl

/-- EARTH of the tested line after the test. -/
def earthCond (s : State) (t : EarthTest) : Cond :=
  if s.refActive = false then s.voted (.line t.line .earth) (earthVote s t) else s.cond (.line t.line .earth)

/-- A VALID record written and its vote: the INJECTED flag stands in the record when the vote is taken. -/
theorem voteEarth_of_valid (s : State) (l : LineId) {res : EarthResult} {r : Nat} (hstatus : res.status = .valid)
    (hr : res.r = some r) (hflag : res.injected = false) :
    (s.setEarthRes l res).voteEarth l res
      = (s.setEarthRes l { res with injected := (s.cond (.line l .earth)).injection.isSome }).vote (.line l .earth)
          (judgeEarth r (s.lineProfile l).earthThreshold res.saturated) (some r) := by
  have hforces : (s.setEarthRes l res).forces (.line l .earth) = (s.cond (.line l .earth)).injection.isSome := rfl
  simp only [State.voteEarth, hstatus, hr, hforces]
  cases (s.cond (.line l .earth)).injection.isSome with
  | true =>
    simp only [if_true, State.setEarthRes, Vector.set_set]
    rfl
  | false =>
    rw [if_neg Bool.false_ne_true, ← hstatus, ← hr, ← hflag]
    rfl

/-- The record of a completed test written and its vote, which a VALID one alone takes. -/
theorem voteEarth_eq (s : State) (t : EarthTest) :
    (s.setEarthRes t.line (s.earthRecord t)).voteEarth t.line (s.earthRecord t)
      = if decide (s.refActive = false) then
          (s.setEarthRes t.line (earthResult s t)).vote (.line t.line .earth) (earthVote s t) (some (leakageR t.sumL t.ne))
        else s.setEarthRes t.line (earthResult s t) := by
  unfold earthResult
  cases href : s.refActive with
  | true =>
    have hstatus : (s.earthRecord t).status = .unreliable := by rw [State.earthRecord, href]; rfl
    rw [State.voteEarth, hstatus]
    rfl
  | false =>
    have hstatus : (s.earthRecord t).status = .valid := by rw [State.earthRecord, href]; rfl
    exact voteEarth_of_valid s t.line hstatus rfl rfl

/-! ## The completion (R85) -/

/-- The state a completed test leaves to EBRG's next choice: EARTH of its line has turned, its record stands beside it. -/
def testDone (s : State) (due : Nat) (t : EarthTest) : State :=
  beside ((s.waitUntil due).movedInTurn (fun _ => earthCond s t) [.line t.line .earth])
    { s.recs with earthRes := s.recs.earthRes.set t.line (earthResult s t) }
    (s.nq.placeAll (s.moveNotice (.line t.line .earth) (s.cond (.line t.line .earth)) (earthCond s t).state none
      (some (leakageR t.sumL t.ne))))
    (s.seq.pushedIf (decide (s.refActive = false) && pushes (s.cond (.line t.line .earth)) (earthVote s t)) (.line t.line))
    s.firstCount

theorem completeTest_eq (s : State) (due : Nat) (t : EarthTest) :
    (s.waitUntil due).completeTest t = ((testDone s due t).setMode .idle).choose := by
  have hcond : earthCond s t = if decide (s.refActive = false) = true then
      (s.waitUntil due).voted (.line t.line .earth) (earthVote s t) else (s.waitUntil due).cond (.line t.line .earth) := by
    simp only [decide_eq_true_eq]
    rfl
  have hvote := voteIf_beside (s := s.waitUntil due) (v := s.waitUntil due)
    (res := { s.recs with earthRes := s.recs.earthRes.set t.line (earthResult s t) }) (nq := s.nq) (seq := s.seq)
    (marks := s.firstCount) (id := .line t.line .earth) (e := .line t.line) (decide (s.refActive = false))
    (fun _ h => nomatch h) rfl (.refl _) rfl rfl (earthVote s t) (some (leakageR t.sumL t.ne)) hcond
  rw [(sameView_waitUntil s due).moveNotice] at hvote
  exact congrArg (fun u : State => (u.setMode .idle).choose) ((voteEarth_eq (s.waitUntil due) t).trans hvote)

section
variable (s : State) (due : Nat) (t : EarthTest)

theorem nq_testDone :
    (testDone s due t).nq
      = if s.refActive = false then s.nqAfterVote (.line t.line .earth) (earthVote s t) (some (leakageR t.sumL t.ne))
        else s.nq := by
  change s.nq.placeAll _ = _
  unfold earthCond
  split
  · rfl
  · rw [moveNotice_same]
    rfl

theorem seq_testDone :
    (testDone s due t).seq
      = if s.refActive = false then s.seqAfterVote (.line t.line .earth) (earthVote s t) else s.seq := by
  rw [seqAfterVote_line]
  change s.seq.pushedIf _ _ = _
  cases s.refActive <;> rfl

theorem testDone_eq : testDone s due t
    = { s with
        clock := max s.clock due
        recs := (testDone s due t).recs
        nq := if s.refActive = false then s.nqAfterVote (.line t.line .earth) (earthVote s t) (some (leakageR t.sumL t.ne))
          else s.nq
        seq := if s.refActive = false then s.seqAfterVote (.line t.line .earth) (earthVote s t) else s.seq
        fout := (testDone s due t).fout } := by
  have hturns := judging_movedInTurn (s.waitUntil due) (fun _ => earthCond s t) [.line t.line .earth]
  rw [← nq_testDone s due t, ← seq_testDone s due t]
  unfold testDone
  generalize (s.waitUntil due).movedInTurn _ _ = v at hturns ⊢
  exact beside_eq hturns ..

theorem cond_testDone (id : CondId) :
    (testDone s due t).cond id
      = if id = .line t.line .earth ∧ s.refActive = false then
          (s.cond id).afterVote (earthVote s t) (s.lineProfile t.line).earthRule s.seq.round
        else s.cond id := by
  rw [testDone, cond_beside, cond_movedInTurn]
  by_cases hid : id = .line t.line .earth
  · simp only [hid, List.mem_singleton, if_true, true_and]
    rfl
  · rw [if_neg (mt List.mem_singleton.mp hid), if_neg (fun h => hid h.1)]
    rfl

/-- FOUT is told where EARTH enters ACTIVE or leaves it, and of nothing else (R150). -/
theorem outputsTold_testDone (e : Ebrg) : OutputsTold s { testDone s due t with ebrg := e } [.line t.line .earth] := by
  have hturns := judging_movedInTurn (s.waitUntil due) (fun _ => earthCond s t) [.line t.line .earth]
  have hview : SameView s (testDone s due t) := ⟨hturns.cfg, hturns.zones, hturns.evac, round_pushedIf ..⟩
  have hst := hview.standing
  have hcond : ∀ id, (testDone s due t).cond id
      = ((s.waitUntil due).movedInTurn (fun _ => earthCond s t) [.line t.line .earth]).cond id :=
    fun id => by rw [testDone, cond_beside]
  exact outputsTold_of_turns ⟨rfl, rfl, hcond⟩ (congrArg Settings.outA hview.cfg)
    (congrArg Settings.outB hview.cfg) ⟨hst.state, hst.feeds, hst.zone, hst.amp, hst.zones, hst.evac⟩

/-- EBRG's next choice after a completed test moves EBRG alone, from the walk and the reading as they stood. -/
theorem choose_testDone :
    ∃ e : Ebrg, ((testDone s due t).setMode .idle).choose = { testDone s due t with ebrg := e }
      ∧ e.lastBias = s.ebrg.lastBias ∧ ChoiceMade s e (testDone s due t).clock := by
  have hframe := choose_frame ((testDone s due t).setMode .idle)
  have hbias := choose_lastBias ((testDone s due t).setMode .idle)
  have hchoice := choiceMade_choose ((testDone s due t).setMode .idle)
  generalize ((testDone s due t).setMode .idle).choose = u at hframe hbias hchoice
  refine ⟨u.ebrg, hframe, ?_, ?_⟩
  · rw [hbias, testDone_eq]
    rfl
  · rw [testDone_eq] at hchoice ⊢
    exact hchoice

end

/-! ## The blocks (R84) -/

/-- A leakage block that ends while EBRG is MEASURING enters the test, which completes at its n_e-th (R84, R85). -/
theorem exec_leakageBlockEnd {s : State} {t : EarthTest} (code : Code) (hmode : s.ebrg.mode = .measuring t) :
    exec (.leakageBlockEnd code) s
      = .next ((s.waitUntil (t.blockStart + 491520)).endLeakageBlock (t.addBlock code.val)) := by
  change execLeakageBlockEnd code s = _
  rw [execLeakageBlockEnd, hmode]
  rfl

/-- Settles O59: a block before the last goes on with the test, and the last one completes it. -/
theorem leakageIsMeasured : Obligations.LeakageIsMeasured := by
  unfold Obligations.LeakageIsMeasured
  intro s t0 code hmode due sum saturated t1
  have hexec : exec (.leakageBlockEnd code) s = .next ((s.waitUntil due).endLeakageBlock t1) :=
    exec_leakageBlockEnd code hmode
  rw [hexec]
  refine ⟨fun hgoes => congrArg Host.Outcome.next (if_neg (Nat.not_le.mpr hgoes)), fun hlast => ?_⟩
  intro r valid judged id
  have hcomplete : (s.waitUntil due).endLeakageBlock t1 = (s.waitUntil due).completeTest t1 := if_pos hlast
  obtain ⟨e, hchoose, hbias, hchoice⟩ := choose_testDone s due t1
  rw [hcomplete, completeTest_eq, hchoose]
  refine ⟨_, rfl, ?_, outputsTold_testDone s due t1 e, hbias, hchoice, ?_, fun j => cond_testDone s due t1 j,
    rfl, rfl, rfl, rfl, rfl⟩
  · exact congrArg (fun u : State => { u with ebrg := e }) (testDone_eq s due t1)
  · exact congrArg (fun x => s.recs.earthRes.set t0.line x) (earthResult_eq s t1)

end Sys2Proof.Machine.Leakage
end

section
/-! SUPPORT. SET-SCAN: the ring it puts in place, what SEQ makes of it, and the obligation that nothing else moves (R72 to
R74). -/

namespace Sys2Proof.Machine.Scan

open Converter

/-- The form and the ring after a SET-SCAN: the ring sent, the default ring where its mark was sent, else those in force
(R72, R73). -/
def ringPut (c : ScanChange) (cfg : Settings) : RingForm × List RingEntry :=
  match c.ring with
  | some ring => (.custom, ring)
  | none => if c.defaultRing then (.byDefault, defaultRing cfg.lines) else (cfg.form, cfg.ring)

/-- SEQ after a SET-SCAN: a ring put in place clears the rebuild mark and, in GRANTED, sends the pointer back (R73). -/
def seqPut (c : ScanChange) (q : Seq) : Seq :=
  if c.ring.isSome = true ∨ c.defaultRing = true then
    { q with
      rebuildPending := false
      pointer := if q.state = .granted then 0 else q.pointer
      skips := if q.state = .granted then [] else q.skips }
  else q

theorem seqPut_of_ring {c : ScanChange} (q : Seq) (h : c.ring.isSome = true ∨ c.defaultRing = true) :
    seqPut c q = q.newRing := by
  rw [seqPut, if_pos h]
  unfold Seq.newRing
  split <;> rfl

/-- An accepted SET-SCAN writes the scan settings, the form and the ring, SEQ's place on it, and the counter. -/
theorem applySetScan_eq (c : ScanChange) (s : State) :
    applySetScan c s
      = ({ s with
          cfg := { s.cfg with
            scan := c.write s.cfg.scan, form := (ringPut c s.cfg).1, ring := (ringPut c s.cfg).2 }
          seq := seqPut c s.seq } : State).advanced := by
  cases hring : c.ring with
  | some ring =>
    rw [applySetScan, ringPut, seqPut_of_ring _ (.inl (by rw [hring]; rfl)), hring]
    rfl
  | none =>
    cases hmark : c.defaultRing with
    | true =>
      rw [applySetScan, ringPut, seqPut_of_ring _ (.inr hmark), hring, hmark]
      rfl
    | false =>
      have hseq : seqPut c s.seq = s.seq := if_neg (by simp [hring, hmark])
      rw [applySetScan, ringPut, hseq, hring, hmark]
      rfl

/-- A SET-SCAN that is taken acts where its payload parses, and is answered with what is then in force. -/
theorem exec_setScan {s : State} {p : Port} {dest : Byte} {payload : List Byte} {c : ScanChange} (h : s.takes p dest)
    (hlen : payload.length ≤ 200) (hparse : parseSetScan payload = some c) :
    exec (.setScan p dest payload) s
      = .next ((setScanAct c (s.hunt p)).1.holdFrame p 0x26 .live (setScanAct c (s.hunt p)).2) := by
  change Host.Outcome.next (s.deliverUnit p dest 0x26 payload fun u => parsed (parseSetScan payload) u setScanAct) = _
  rw [hparse, State.deliverUnit, State.deliver_of_takes s p dest 0x26 payload _ id h hlen]
  rfl

/-- Settles O36: what SET-SCAN writes is `applySetScan_eq`, and the rest is its reply. -/
theorem setScanPutsTheRing : Obligations.SetScanPutsTheRing := by
  unfold Obligations.SetScanPutsTheRing
  intro s p dest pl c h hlen hparse scan put seq
  rw [exec_setScan h hlen hparse, setScanAct, applySetScan_eq]
  cases p <;> rfl

end Sys2Proof.Machine.Scan
end

section
/-! SUPPORT. SEQ's own state and the confirm queue: which acts of CEVAL, LEARN and LINK leave SEQ as it is, what a grant
decision takes out of the confirm queue, and that only a vote on a subject that is not OFF puts an entry in it. -/

namespace Sys2Proof.Machine.Scan

open Converter

/-! ## Acts that leave SEQ as it is -/

theorem seq_foldl {α : Type} {f : State → α → State} (h : ∀ u x, (f u x).seq = u.seq) (xs : List α) (s : State) :
    (xs.foldl f s).seq = s.seq := by
  induction xs generalizing s with
  | nil => rfl
  | cons x xs ih => rw [List.foldl_cons, ih, h]

theorem seq_ite {s u v : State} {c : Prop} [Decidable c] (h : u.seq = s.seq) (k : v.seq = s.seq) :
    (if c then u else v).seq = s.seq := by
  split
  · exact h
  · exact k

@[simp] theorem seq_moveCond (s : State) (id : CondId) (new : CondState) (cause : Option Cause) (value : Option Nat)
    (test : Bool) : (s.moveCond id new cause value test).seq = s.seq := by
  obtain ⟨nq, fout, h⟩ := s.moveCond_spec id new cause value test
  rw [h]

@[simp] theorem seq_emptyCond (s : State) (id : CondId) (cause : Option Cause) : (s.emptyCond id cause).seq = s.seq :=
  seq_moveCond ..

@[simp] theorem seq_attributeLine (s : State) (l : LineId) : (s.attributeLine l).seq = s.seq :=
  seq_ite rfl (seq_emptyCond ..)

@[simp] theorem seq_attributeFed (s : State) (a : AmpId) : (s.attributeFed a).seq = s.seq :=
  seq_foldl (fun _ _ => seq_ite (seq_attributeLine ..) rfl) _ _

@[simp] theorem seq_afterMove (s : State) (id : CondId) (old new : CondState) : (s.afterMove id old new).seq = s.seq := by
  cases id with
  | line | dev => rfl
  | amp a k =>
    cases k with
    | nopilot => exact seq_ite (seq_attributeFed ..) (seq_ite rfl rfl)
    | overload | freq | temp | supply => rfl

@[simp] theorem seq_evaluate (s : State) (id : CondId) (value : Option Nat) (test : Bool) :
    (s.evaluate id value test).seq = s.seq :=
  (seq_afterMove ..).trans (seq_moveCond ..)

@[simp] theorem seq_reevaluate (s : State) (id : CondId) : (s.reevaluate id).seq = s.seq := by
  unfold State.reevaluate
  split
  · exact seq_ite rfl (seq_evaluate ..)
  · exact seq_evaluate ..

@[simp] theorem seq_reevaluateAll (s : State) (ids : List CondId) : (s.reevaluateAll ids).seq = s.seq :=
  seq_foldl (fun _ _ => seq_ite rfl (seq_reevaluate ..)) _ _

@[simp] theorem seq_emptyRef (s : State) (l : LineId) : (s.emptyRef l).seq = s.seq :=
  (seq_emptyCond ..).trans (seq_emptyCond ..)

@[simp] theorem seq_announceActive (s : State) (x : Subject) : (s.announceActive x).seq = s.seq :=
  seq_foldl (fun _ _ => seq_ite (State.notify_seq ..) rfl) _ _

@[simp] theorem seq_announceEntries (s before : State) : (s.announceEntries before).seq = s.seq :=
  seq_foldl (fun _ _ => seq_ite (seq_announceActive ..) rfl) _ _

@[simp] theorem seq_turnOffConds (s : State) (x : Subject) : (s.turnOffConds x).seq = s.seq :=
  seq_foldl (fun _ _ => State.setCond_seq ..) _ _

theorem seq_clearLatches (s : State) (ids : List CondId) : (ids.foldl State.clearLatch s).seq = s.seq :=
  seq_foldl (fun _ _ => seq_ite rfl (State.setCond_seq ..)) _ _

theorem seq_applyInject (c : Injection) (s : State) : (applyInject c s).seq = s.seq := by
  have hdrop : (s.dropInjections c.subject).seq = s.seq := seq_foldl (fun _ _ => State.setCond_seq ..) _ _
  exact seq_ite hdrop hdrop

@[simp] theorem seq_reactZref (s : State) (l : LineId) (written : Option (Option Nat)) (old : Option Nat) :
    (s.reactZref l written old).seq = s.seq := by
  unfold State.reactZref
  split
  · rfl
  · exact seq_emptyRef ..
  · exact seq_ite rfl (seq_emptyRef ..)

@[simp] theorem seq_enterMinMax (s : State) (l : LineId) (r : LineResult) : (s.enterMinMax l r).seq = s.seq := by
  unfold State.enterMinMax
  split
  · exact seq_ite rfl rfl
  · rfl

@[simp] theorem seq_moveDegraded (s : State) (l : LineId) (status : MeasStatus) : (s.moveDegraded l status).seq = s.seq :=
  seq_ite (seq_moveCond ..) (seq_ite (seq_moveCond ..) rfl)

@[simp] theorem seq_completeLearning (s : State) (l : LineId) (r : LearnRec) : (s.completeLearning l r).seq = s.seq := by
  unfold State.completeLearning
  split
  · simp
  · rfl

@[simp] theorem seq_learnWaits (s : State) (l : LineId) (r : LearnRec) : (s.learnWaits l r).seq = s.seq := seq_ite rfl rfl

@[simp] theorem seq_handLearn (s : State) (l : LineId) (res : LineResult) : (s.handLearn l res).seq = s.seq := by
  unfold State.handLearn
  split
  · rfl
  · dsimp only
    split
    · rfl
    · rfl
    · rfl
    · exact seq_ite (seq_completeLearning ..) (seq_learnWaits ..)
    · exact seq_learnWaits ..

@[simp] theorem seq_markAmp (s : State) (a : AmpId) (forced : Bool) : (s.markAmp a forced).seq = s.seq := seq_ite rfl rfl

@[simp] theorem seq_choose (s : State) : s.choose.seq = s.seq := by rw [choose_frame]

/-! ## What an act takes out of the confirm queue (R66, R67, R68) -/

/-- From `s` to `t` no entry has joined the confirm queue, its credit stays in bounds, and nothing that was not OFF is
OFF. -/
structure QueueKept (s t : State) : Prop where
  confirm : t.seq.confirm.Sublist s.seq.confirm
  credit : s.seq.credit ≤ 2 → t.seq.credit ≤ 2
  lines : ∀ l, (s.line l).state ≠ .off → (t.line l).state ≠ .off
  amps : ∀ a, (s.amp a).state ≠ .off → (t.amp a).state ≠ .off

section
variable {s t u : State}

theorem QueueKept.trans (h : QueueKept s t) (k : QueueKept t u) : QueueKept s u :=
  ⟨k.confirm.trans h.confirm, k.credit ∘ h.credit, fun l => k.lines l ∘ h.lines l, fun a => k.amps a ∘ h.amps a⟩

/-- States with the same subjects OFF, where SEQ has at most lost confirm entries. -/
theorem QueueKept.of_schedule (k : SameSchedule s t) (confirm : t.seq.confirm.Sublist s.seq.confirm)
    (credit : s.seq.credit ≤ 2 → t.seq.credit ≤ 2) : QueueKept s t := ⟨confirm, credit, k.lines, k.amps⟩

/-- An act that turns nothing OFF and leaves SEQ as it is. -/
theorem QueueKept.of_seq (k : SameSchedule s t) (h : t.seq = s.seq) : QueueKept s t :=
  .of_schedule k (h ▸ List.Sublist.refl _) (h ▸ id)

/-- An act that writes neither SEQ nor the line and amplifier tables. -/
theorem QueueKept.of_tables (confirm : t.seq.confirm.Sublist s.seq.confirm := by exact List.Sublist.refl _)
    (credit : s.seq.credit ≤ 2 → t.seq.credit ≤ 2 := by exact id) (lines : t.cfg.lines = s.cfg.lines := by rfl)
    (amps : t.cfg.amps = s.cfg.amps := by rfl) : QueueKept s t :=
  ⟨confirm, credit, fun l => by simp only [State.line, lines]; exact id,
    fun a => by simp only [State.amp, amps]; exact id⟩

theorem QueueKept.refl (s : State) : QueueKept s s := .of_tables

theorem isOff_dev (s : State) : s.isOff .dev = false := rfl

theorem QueueKept.not_off (k : QueueKept s t) (x : Subject) (h : s.isOff x = false) : t.isOff x = false := by
  cases x with
  | line l =>
    simp only [isOff_line, decide_eq_false_iff_not] at h ⊢
    exact k.lines l h
  | amp a =>
    simp only [isOff_amp, decide_eq_false_iff_not] at h ⊢
    exact k.amps a h
  | dev => rfl

theorem QueueKept.confirmOk (k : QueueKept s t) (h : ConfirmOk s) : ConfirmOk t where
  length_le := k.confirm.length_le.trans h.length_le
  nodup := h.nodup.sublist k.confirm
  credit_le := k.credit h.credit_le
  not_off e he := k.not_off e.subject (h.not_off e (k.confirm.subset he))

theorem queueKept_of_judging (k : Judging s t) (h : t.seq = s.seq) : QueueKept s t := .of_seq k.sameSchedule h

end

/-! ## Grant decisions (R66 to R69) -/

theorem queueKept_startRound (s : State) : QueueKept s s.startRound := .of_tables (credit := fun _ => le_rfl)

theorem queueKept_endRound (s : State) : QueueKept s s.endRound := by
  have hcount : QueueKept s s.closeRound.countRoundOutputs := .of_tables
  by_cases hlate : s.roundIsLate = true
  · rw [endRound_late hlate]
    exact hcount.trans (queueKept_startRound _)
  · rw [endRound_early hlate]
    exact .of_tables

theorem queueKept_walkRing (es : List RingEntry) (s : State) : QueueKept s (State.walkRing es s) := by
  induction es generalizing s with
  | nil => exact queueKept_endRound s
  | cons e es ih =>
    have hskip : ∀ k, QueueKept s { s with seq := s.seq.skip k } := fun _ => .of_tables
    unfold State.walkRing
    split
    · exact (hskip .passed).trans (ih _)
    · split
      · exact (hskip .skipped).trans (ih _)
      · exact .of_tables (credit := fun _ => le_rfl)

/-- A grant decision takes at most one entry out of the confirm queue; it pays for it, or the credit is restored to 2. -/
theorem queueKept_grantDecision (s : State) : QueueKept s s.grantDecision := by
  unfold State.grantDecision
  split
  · split
    · exact .of_tables (confirm := List.erase_sublist) (credit := fun h => (Nat.sub_le ..).trans h)
    · exact queueKept_walkRing _ s
  · exact .refl s

theorem queueKept_choose (s : State) : QueueKept s s.choose := by
  rw [choose_frame]
  exact .of_tables

theorem queueKept_earthRetry (s : State) : QueueKept s s.earthRetry := by
  rw [earthRetry_frame]
  exact .of_tables

theorem queueKept_earthAfterOff (s : State) (l : LineId) : QueueKept s (s.earthAfterOff l) := by
  rw [earthAfterOff_frame]
  exact .of_tables

theorem queueKept_freeReport (s : State) (order : RaceOrder) : QueueKept s (s.freeReport order) := by
  cases order with
  | earthFirst => exact (queueKept_earthRetry s).trans (queueKept_grantDecision _)
  | seqFirst => exact (queueKept_grantDecision s).trans (queueKept_earthRetry _)

theorem queueKept_releaseLconv (s : State) : QueueKept s s.releaseLconv := .of_tables

end Sys2Proof.Machine.Scan
end

section
/-! SUPPORT. What puts an entry in the confirm queue: a vote, and every vote is on a subject that is not OFF. -/

namespace Sys2Proof.Machine.Scan

open Converter

/-- The confirm queue is in order, and a vote on the subject `x` may push it: it is not OFF. -/
structure Admits (s : State) (x : Subject) : Prop where
  ok : ConfirmOk s
  on : s.isOff x = false

section
variable {s t : State} {x : Subject}

theorem Admits.kept (h : Admits s x) (k : QueueKept s t) : Admits t x := ⟨k.confirmOk h.ok, k.not_off x h.on⟩

theorem mem_push {q : Seq} {e f : RingEntry} (h : f ∈ (q.push e).confirm) : f ∈ q.confirm ∨ f = e := by
  unfold Seq.push at h
  split at h
  · exact .inl h
  · split at h
    · simpa using h
    · exact .inl h

/-- A push of a subject that is not OFF keeps the confirm queue in order (R66). -/
theorem Admits.push_entry {e : RingEntry} (h : Admits s e.subject) : Admits (s.push e.subject) e.subject := by
  have hseq : s.push e.subject = { s with seq := s.seq.push e } := by cases e <;> rfl
  rw [hseq]
  refine ⟨⟨s.seq.push_length e h.ok.length_le, s.seq.push_nodup e h.ok.nodup, ?_, fun f hf => ?_⟩, h.on⟩
  · have hcredit : (s.seq.push e).credit = s.seq.credit := by rw [push_eq_pushed]; unfold Seq.pushed; split <;> rfl
    exact hcredit.le.trans h.ok.credit_le
  · rcases mem_push hf with hf | rfl
    · exact h.ok.not_off f hf
    · exact h.on

theorem Admits.push (h : Admits s x) : Admits (s.push x) x := by
  cases x with
  | line l => exact push_entry (e := .line l) h
  | amp a => exact push_entry (e := .amp a) h
  | dev => exact h

theorem Admits.vote {id : CondId} (h : Admits s id.subject) (judged : Vote) (value : Option Nat) :
    Admits (s.vote id judged value) id.subject := by
  have hjudge : Judging s ((s.setCond id ((s.cond id).withVote judged)).evaluate id value (s.cond id).injection.isSome) :=
    (judging_setCond ..).trans (judging_evaluate ..)
  have hmoved := h.kept (queueKept_of_judging hjudge ((seq_evaluate ..).trans (State.setCond_seq ..)))
  unfold State.vote
  dsimp only
  split
  · exact hmoved.push
  · exact hmoved

/-! ## Completions of LCONV (R27) -/

theorem Admits.voteLine {l : LineId} (h : Admits s (.line l)) (r : LineResult) : Admits (s.voteLine l r) (.line l) := by
  have hvotes : ∀ (cls : LineClass) (ks : List LineKind) (u : State), Admits u (.line l) →
      Admits (ks.foldl (fun u k => u.vote (.line l k) (lineVote cls k) r.z) u) (.line l) := by
    intro cls ks
    induction ks with
    | nil => exact fun _ hu => hu
    | cons k ks ih => exact fun u hu => ih _ (Admits.vote (id := .line l k) hu _ _)
  unfold State.voteLine
  split
  · exact hvotes _ _ s h
  · exact h

theorem confirmOk_completeLine {l : LineId} (h : Admits s (.line l)) (m : Meas) : ConfirmOk (s.completeLine l m) := by
  have hset : ∀ r, QueueKept s ((s.setLineRes l r).enterMinMax l r) := fun r =>
    QueueKept.trans (t := s.setLineRes l r) .of_tables (.of_seq (sameSchedule_enterMinMax ..) (seq_enterMinMax ..))
  have hafter : ∀ u r, QueueKept u (((u.moveDegraded l r.status).handLearn l r).releaseLconv) := fun u r =>
    (QueueKept.of_seq (sameSchedule_moveDegraded ..) (seq_moveDegraded ..)).trans
      ((QueueKept.of_seq (sameSchedule_handLearn ..) (seq_handLearn ..)).trans (queueKept_releaseLconv _))
  exact (hafter _ _).confirmOk ((h.kept (hset _)).voteLine _).ok

theorem Admits.voteAmp {a : AmpId} (h : Admits s (.amp a)) (k : AmpKind) (judged : Vote) (value : Option Nat) :
    Admits (s.voteAmp a k judged value) (.amp a) :=
  Admits.vote (id := .amp a k) (h.kept (.of_seq (sameSchedule_markAmp ..) (seq_markAmp ..))) judged value

theorem Admits.votePilot {a : AmpId} (h : Admits s (.amp a)) (r : AmpResult) : Admits (s.votePilot a r) (.amp a) := by
  unfold State.votePilot
  split
  · exact (h.voteAmp ..).voteAmp ..
  · exact h

theorem Admits.voteFreq {a : AmpId} (h : Admits s (.amp a)) (r : AmpResult) : Admits (s.voteFreq a r) (.amp a) := by
  unfold State.voteFreq
  split
  · exact h
  · split
    · exact h
    · split
      · exact h.kept .of_tables
      · exact h.voteAmp ..

theorem confirmOk_completeAmp {a : AmpId} (h : Admits s (.amp a)) (m : Meas) (th su : Bool) :
    ConfirmOk (s.completeAmp a m th su) := by
  have hset : Admits (s.setAmpRes a (s.ampRecord a m th su)) (.amp a) := h.kept .of_tables
  exact (queueKept_releaseLconv _).confirmOk ((((hset.votePilot _).voteFreq _).voteAmp ..).voteAmp ..).ok

theorem confirmOk_completeRef (h : ConfirmOk s) (m : Meas) : ConfirmOk (s.completeRef m) := by
  have hset : Admits { s with recs := { s.recs with refRes := s.refRecord m } } (CondId.dev .ref).subject :=
    Admits.kept (s := s) ⟨h, isOff_dev s⟩ .of_tables
  exact (queueKept_releaseLconv _).confirmOk (hset.vote _ none).ok

/-- The completion of a measurement keeps the confirm queue in order, for LCONV measures no subject that is OFF (R33). -/
theorem confirmOk_complete (h : ConfirmOk s) (m : Meas) (th su : Bool)
    (hline : ∀ l, m.subject = .line l → s.isOff (.line l) = false)
    (hamp : ∀ a, m.subject = .amp a → s.isOff (.amp a) = false) : ConfirmOk (s.complete m th su) := by
  unfold State.complete
  split
  · next l hl => exact confirmOk_completeLine ⟨h, hline l hl⟩ m
  · next a ha => exact confirmOk_completeAmp ⟨h, hamp a ha⟩ m th su
  · exact confirmOk_completeRef h m

theorem confirmOk_endSampleBlock {m0 : Meas} (h : ConfirmOk s) (hs : Scheduled s) (hm : s.lconv = some m0) (m : Meas)
    (hsub : m.subject = m0.subject) (th su : Bool) (order : RaceOrder) : ConfirmOk (s.endSampleBlock m th su order) := by
  unfold State.endSampleBlock
  split
  · refine (queueKept_freeReport _ order).confirmOk (confirmOk_complete h m th su (fun l hl => ?_) fun a ha => ?_)
    · rw [isOff_line, decide_eq_false_iff_not]
      exact hs.line_not_off l ((lineInFlight_of_some hm l).mpr (hsub.symm.trans hl))
    · rw [isOff_amp, decide_eq_false_iff_not]
      exact hs.amp_not_off a ((measuring_of_some hm _).mpr (hsub.symm.trans ha))
  · exact QueueKept.confirmOk .of_tables h

/-! ## EBRG's tests (R83 to R85) -/

theorem confirmOk_endSoak (h : ConfirmOk s) (t : EarthTest) (bias : Nat) : ConfirmOk (s.endSoak t bias) := by
  have hstored : Admits { s with ebrg := { s.ebrg with lastBias := some bias } } (CondId.dev .bridge).subject :=
    Admits.kept (s := s) ⟨h, isOff_dev s⟩ .of_tables
  unfold State.endSoak
  dsimp only
  split
  · exact QueueKept.confirmOk .of_tables (hstored.vote .clean none).ok
  · refine (queueKept_choose _).confirmOk (Admits.vote (id := .dev .bridge) (hstored.kept ?_) .bad none).ok
    exact .of_tables

theorem Admits.voteEarth {l : LineId} (h : Admits s (.line l)) (res : EarthResult) :
    Admits (s.voteEarth l res) (.line l) := by
  unfold State.voteEarth
  split
  · refine Admits.vote (id := .line l .earth) (h.kept ?_) _ _
    split
    · exact .of_tables
    · exact .refl s
  · exact h

/-- The end of a leakage block keeps the confirm queue in order, for EBRG tests no line that is OFF (R89). -/
theorem confirmOk_endLeakageBlock {t0 : EarthTest} (h : ConfirmOk s) (hs : Scheduled s)
    (hm : s.ebrg.mode = .measuring t0) (t : EarthTest) (hl : t.line = t0.line) : ConfirmOk (s.endLeakageBlock t) := by
  have hon : s.isOff (.line t.line) = false := by
    rw [isOff_line, decide_eq_false_iff_not]
    exact hs.chosen_not_off _ (by rw [hm, hl]; rfl)
  have hset : Admits (s.setEarthRes t.line (s.earthRecord t)) (.line t.line) := Admits.kept (s := s) ⟨h, hon⟩ .of_tables
  unfold State.endLeakageBlock
  split
  · have hidle : ∀ u : State, QueueKept u (u.setMode .idle).choose := fun u =>
      QueueKept.trans (t := u.setMode .idle) .of_tables (queueKept_choose _)
    exact (hidle _).confirmOk (hset.voteEarth _).ok
  · exact QueueKept.confirmOk .of_tables h

end

end Sys2Proof.Machine.Scan
end

section
/-! SUPPORT. The confirm queue through every request, restart and event, and the obligation that every step keeps it in
order. -/

namespace Sys2Proof.Machine.Scan

open Converter

/-! ## SET-LINE and SET-AMP (R5, R9, R67) -/

/-- A subject set OFF leaves the confirm queue, so the queue stays in order (R67). -/
theorem confirmOk_of_dropped {s t : State} (e : RingEntry) (h : ConfirmOk s)
    (hseq : t.seq = { s.seq with confirm := s.seq.confirm.filter fun x => decide (x ≠ e) })
    (hon : ∀ f : RingEntry, f ≠ e → t.isOff f.subject = s.isOff f.subject) : ConfirmOk t := by
  have hsub : t.seq.confirm.Sublist s.seq.confirm := hseq ▸ List.filter_sublist
  refine ⟨hsub.length_le.trans h.length_le, h.nodup.sublist hsub, hseq ▸ h.credit_le, fun f hf => ?_⟩
  have hne : f ≠ e := by
    rw [hseq] at hf
    simpa using (List.mem_filter.mp hf).2
  rw [hon f hne]
  exact h.not_off f (hsub.subset hf)

theorem isOff_congr {s t : State} (h : t.cfg = s.cfg) (x : Subject) : t.isOff x = s.isOff x := by
  have hstate : t.subjState x = s.subjState x := by
    cases x <;> simp only [State.subjState, State.line, State.amp, h]
  simp only [State.isOff, hstate]

theorem seq_dropConfirm (s : State) (e : RingEntry) :
    (s.dropConfirm e).seq = { s.seq with confirm := s.seq.confirm.filter fun x => decide (x ≠ e) } := rfl

theorem seq_lineOffEffects (s : State) (l : LineId) :
    (s.lineOffEffects l).seq = { s.seq with confirm := s.seq.confirm.filter fun x => decide (x ≠ .line l) } := by
  simp [State.lineOffEffects, seq_dropConfirm]

theorem seq_ampOffEffects (s : State) (a : AmpId) :
    (s.ampOffEffects a).seq = { s.seq with confirm := s.seq.confirm.filter fun x => decide (x ≠ .amp a) } := by
  simp [State.ampOffEffects, seq_dropConfirm]

theorem cfg_lineOffEffects (s : State) (l : LineId) : (s.lineOffEffects l).cfg = s.cfg := by
  simp [State.lineOffEffects, (judging_turnOffConds s (.line l)).cfg]

/-- An entry written to a table that turns nothing OFF keeps the confirm queue in order. -/
theorem queueKept_setLineEntry {s : State} {l : LineId} {e : LineEntry}
    (h : ¬((s.line l).state ≠ .off ∧ e.state = .off)) : QueueKept s (s.bumpCounter.setLineEntry l e) := by
  refine ⟨List.Sublist.refl _, id, fun j hj => ?_, fun _ => id⟩
  rw [line_setLineEntry]
  split
  · next hjl =>
    subst hjl
    exact fun hoff => h ⟨hj, hoff⟩
  · exact hj

theorem isOff_setLineEntry {s : State} {l : LineId} {e : LineEntry} {f : RingEntry} (h : f ≠ .line l) :
    (s.bumpCounter.setLineEntry l e).isOff f.subject = s.isOff f.subject := by
  cases f with
  | amp a => rfl
  | line j =>
    have hj : j ≠ l := fun hj => h (congrArg RingEntry.line hj)
    simp only [RingEntry.subject, isOff_line, line_setLineEntry, if_neg hj]
    rfl

/-- A line's entry written, and CEVAL's, NQ's and LEARN's reaction to its state field. -/
theorem confirmOk_reactLineState {s : State} (l : LineId) (e : LineEntry) (h : ConfirmOk s) :
    ConfirmOk ((s.bumpCounter.setLineEntry l e).reactLineState l (s.line l).state e.state) := by
  unfold State.reactLineState
  split
  · exact confirmOk_of_dropped (.line l) h (seq_lineOffEffects ..) fun f hf =>
      (isOff_congr (cfg_lineOffEffects ..) f.subject).trans (isOff_setLineEntry hf)
  · next hoff =>
    have hkept := queueKept_setLineEntry hoff
    split
    · exact (hkept.trans (queueKept_of_judging (judging_announceActive ..) (seq_announceActive ..))).confirmOk h
    · exact hkept.confirmOk h

theorem queueKept_reactLineAmp (s : State) (l : LineId) (written : Bool) : QueueKept s (s.reactLineAmp l written) := by
  have hmark : QueueKept s s.markRebuild := by
    unfold State.markRebuild
    split
    · exact .of_tables
    · exact .refl s
  unfold State.reactLineAmp
  split
  · exact hmark.trans (queueKept_of_judging (.ite (judging_attributeLine ..) (.refl _))
      (seq_ite (seq_attributeLine ..) rfl))
  · exact .refl s

/-- What a change of emergency membership announces, and FOUT told of it. -/
theorem queueKept_announceEntries (s before : State) : QueueKept s (s.announceEntries before).reevalOutputs :=
  queueKept_of_judging ((judging_announceEntries s before).trans (judging_reevalOutputs _))
    ((State.reevalOutputs_seq _).trans (seq_announceEntries ..))

theorem queueKept_reactLineProfile (s : State) (l : LineId) (old new : ProfileId) :
    QueueKept s (s.reactLineProfile l old new) :=
  queueKept_of_judging (judging_reevaluateAll ..) (seq_reevaluateAll ..)

theorem confirmOk_lineWritten (c : LineChange) {s : State} (h : ConfirmOk s) : ConfirmOk (lineWritten c s) := by
  have hstate := confirmOk_reactLineState c.line (c.write (s.line c.line)) h
  have hamp := (QueueKept.trans (queueKept_of_judging (judging_reevalOutputs _) rfl)
    (queueKept_reactLineAmp _ c.line c.amp.isSome)).confirmOk hstate
  have hentries := (queueKept_announceEntries _ s).confirmOk hamp
  have hprofile := (queueKept_reactLineProfile _ c.line (s.line c.line).profile
    (c.write (s.line c.line)).profile).confirmOk hentries
  exact (queueKept_of_judging (judging_reactZref _ c.line c.zref (s.line c.line).zref) (seq_reactZref ..)).confirmOk
    hprofile

theorem queueKept_reactBlocks (s : State) (l : LineId) (old new : SubjState) (order : RaceOrder) :
    QueueKept s (s.reactBlocks l old new order) := by
  unfold State.reactBlocks
  split
  · unfold State.blocksAfterLineOff
    split
    · cases order with
      | earthFirst =>
        exact (queueKept_releaseLconv s).trans ((queueKept_earthAfterOff ..).trans (queueKept_grantDecision _))
      | seqFirst =>
        exact (queueKept_releaseLconv s).trans ((queueKept_grantDecision _).trans (queueKept_earthAfterOff ..))
    · split
      · exact queueKept_earthAfterOff s l
      · exact .refl s
  · split
    · unfold State.bridgeAfterLineOn
      split
      · exact queueKept_choose s
      · exact .refl s
    · exact .refl s

theorem confirmOk_applySetLine (c : LineChange) (order : RaceOrder) {s : State} (h : ConfirmOk s) :
    ConfirmOk (applySetLine c order s) :=
  (queueKept_reactBlocks ..).confirmOk (confirmOk_lineWritten c h)

theorem isOff_setAmpEntry {s : State} {a : AmpId} {e : AmpEntry} {f : RingEntry} (h : f ≠ .amp a) :
    (s.bumpCounter.setAmpEntry a e).isOff f.subject = s.isOff f.subject := by
  cases f with
  | line l => rfl
  | amp b =>
    have hb : b ≠ a := fun hb => h (congrArg RingEntry.amp hb)
    simp only [RingEntry.subject, isOff_amp, amp_setAmpEntry, if_neg hb]
    rfl

/-- An amplifier's entry written, and the reaction of CEVAL and NQ to its state field. -/
theorem confirmOk_reactAmpState {s : State} (a : AmpId) (e : AmpEntry) (h : ConfirmOk s) :
    ConfirmOk ((s.bumpCounter.setAmpEntry a e).reactAmpState a (s.amp a).state e.state) := by
  by_cases hoff : (s.amp a).state ≠ .off ∧ e.state = .off
  · rw [State.reactAmpState, if_pos hoff]
    exact confirmOk_of_dropped (.amp a) h (seq_ampOffEffects ..) fun f hf =>
      (isOff_congr (judging_ampOffEffects ..).cfg f.subject).trans (isOff_setAmpEntry hf)
  · have hkept : QueueKept s (s.bumpCounter.setAmpEntry a e) := by
      refine ⟨List.Sublist.refl _, id, fun _ => id, fun b hb => ?_⟩
      rw [amp_setAmpEntry]
      split
      · next hba =>
        subst hba
        exact fun h => hoff ⟨hb, h⟩
      · exact hb
    refine (hkept.trans (queueKept_of_judging (judging_reactAmpState ..) ?_)).confirmOk h
    rw [State.reactAmpState, if_neg hoff]
    exact seq_ite rfl (seq_ite (seq_announceActive ..) rfl)

theorem confirmOk_applySetAmp (c : AmpChange) (order : RaceOrder) {s : State} (h : ConfirmOk s) :
    ConfirmOk (applySetAmp c order s) := by
  have habandon : ∀ (u : State) (old new : SubjState), QueueKept u (u.reevalOutputs.abandonAmp c.amp old new order) := by
    intro u old new
    unfold State.abandonAmp
    split
    · exact QueueKept.trans (t := u.reevalOutputs.releaseLconv) .of_tables (queueKept_freeReport ..)
    · exact .of_tables
  exact (habandon ..).confirmOk (confirmOk_reactAmpState _ _ h)

/-! ## The other requests -/

theorem queueKept_applySetAmpWide (c : AmpWideChange) (s : State) : QueueKept s (applySetAmpWide c s) :=
  .of_seq (sameSchedule_applySetAmpWide c s) (seq_ite rfl (seq_reevaluateAll ..))

theorem queueKept_applySetProfile (c : ProfileChange) (s : State) : QueueKept s (applySetProfile c s) :=
  .of_seq (sameSchedule_applySetProfile c s) (seq_reevaluateAll ..)

theorem queueKept_applySetScan (c : ScanChange) (s : State) : QueueKept s (applySetScan c s) := by
  have hqueue : (seqPut c s.seq).confirm = s.seq.confirm ∧ (seqPut c s.seq).credit = s.seq.credit := by
    unfold seqPut
    split <;> exact ⟨rfl, rfl⟩
  rw [applySetScan_eq]
  exact .of_tables (confirm := hqueue.1 ▸ List.Sublist.refl _)
    (credit := hqueue.2.le.trans)

theorem queueKept_applySetPilot (d : Nat) (order : RaceOrder) (s : State) : QueueKept s (applySetPilot d order s) := by
  by_cases hd : s.cfg.pilotD = d
  · rw [applySetPilot_same order hd]
    exact .of_tables
  · cases hl : s.lconv with
    | none =>
      rw [applySetPilot_idle order hd hl]
      exact .of_tables
    | some m =>
      rw [applySetPilot_measuring order hd (by rw [hl]; rfl)]
      exact QueueKept.trans (t := (pilotSet s d).releaseLconv) .of_tables (queueKept_freeReport ..)

theorem queueKept_applySetEarth (c : EarthChange) (s : State) : QueueKept s (applySetEarth c s) := by
  unfold applySetEarth State.reactSupervision
  dsimp only
  split
  · exact .of_tables
  · exact QueueKept.trans (t := { s.bumpCounter with cfg := { s.bumpCounter.cfg with earth := c.write s.cfg.earth } })
      .of_tables (queueKept_choose _)
  · exact .of_tables
  · exact .of_tables

theorem queueKept_applySetOutput (c : OutputChange) (s : State) : QueueKept s (applySetOutput c s) := by
  unfold applySetOutput
  cases c.out <;> exact .of_tables

theorem queueKept_learnAct (c : LineId × Nat × Bool) (s : State) : QueueKept s (learnAct c s).1 := by
  unfold learnAct
  dsimp only
  split
  · exact .refl s
  · split
    · exact .refl s
    · exact .of_seq ((sameSchedule_setLearn ..).trans (judging_emptyRef ..).sameSchedule) (seq_emptyRef ..)

theorem queueKept_abortLearnAct (l : LineId) (s : State) : QueueKept s (abortLearnAct l s).1 := by
  unfold abortLearnAct
  split
  · exact .refl s
  · exact .of_tables

theorem queueKept_testInjectAct (c : Injection) (s : State) : QueueKept s (testInjectAct c s).1 := by
  unfold testInjectAct
  split
  · exact .refl s
  · exact queueKept_of_judging (judging_applyInject c s) (seq_applyInject c s)

theorem queueKept_clearLatchAct (xs : List Subject) (s : State) : QueueKept s (clearLatchAct xs s).1 :=
  queueKept_of_judging ((judging_clearLatches ..).trans (judging_reevalOutputs _))
    ((State.reevalOutputs_seq _).trans (seq_clearLatches ..))

theorem queueKept_clearMinmaxAct (ls : List LineId) (s : State) : QueueKept s (clearMinmaxAct ls s).1 :=
  .of_seq (sameSchedule_clearMinMaxes ls s) (seq_foldl (fun u l => u.clearMinMax_seq l) ls s)

theorem queueKept_emergencyAct (zones : BitVec 16) (s : State) : QueueKept s (emergencyAct zones s).1 :=
  QueueKept.trans (t := { s with zones := zones }) .of_tables (queueKept_announceEntries _ s)

theorem queueKept_saveImageAct (s : State) : QueueKept s (saveImageAct s).1 := by
  unfold saveImageAct
  split
  · exact .refl s
  · exact .of_tables

theorem queueKept_pollAct (minimum : Level) (s : State) : QueueKept s (pollAct minimum s).1 := by
  unfold pollAct
  split
  · exact .of_tables
  · exact .refl s

theorem queueKept_setPort (s : State) (p : Port) (x : PortState) : QueueKept s (s.setPort p x) := by
  cases p <;> exact .of_tables

/-- The arrival of a request whose acts keep the confirm queue in order keeps it in order. -/
theorem confirmOk_deliver {s : State} (p : Port) (dest kind : Byte) (payload : List Byte)
    {unit : State → State × Answer} {multi : State → State} (h : ConfirmOk s)
    (hunit : ∀ u, ConfirmOk u → ConfirmOk (unit u).1) (hmulti : ∀ u, ConfirmOk u → ConfirmOk (multi u)) :
    ConfirmOk (s.deliver p dest kind payload unit multi) := by
  have hset : ∀ (u : State) (x : PortState), ConfirmOk u → ConfirmOk (u.setPort p x) := fun u x hu =>
    (queueKept_setPort u p x).confirmOk hu
  unfold State.deliver
  split
  case isFalse => exact h
  split
  case isTrue => exact hset _ _ h
  split
  · exact hset _ _ h
  · split
    · exact hset _ _ h
    · unfold State.takeUnit
      split
      · exact hset _ _ (hset _ _ h)
      · exact hset _ _ (hunit _ (hset _ _ h))
  · split
    · exact hset _ _ h
    · exact hmulti _ (hset _ _ h)

theorem confirmOk_noPayload {u : State} (payload : List Byte) {act : State → State × Answer} (h : ConfirmOk u)
    (hact : ConfirmOk (act u).1) : ConfirmOk (noPayload payload u act).1 := by
  unfold noPayload
  split
  · exact hact
  · exact h

theorem confirmOk_parsed {α : Type} {u : State} (x : Option α) {act : α → State → State × Answer} (h : ConfirmOk u)
    (hact : ∀ y, ConfirmOk (act y u).1) : ConfirmOk (parsed x u act).1 := by
  cases x with
  | none => exact h
  | some y => exact hact y

/-! ## Restarts (R75, R169) -/

theorem seq_announceRestart (s : State) (cause : RestartCause) (config : Bool) :
    (s.announceRestart cause config).seq = s.seq := seq_ite (seq_moveCond ..) rfl

/-- A start-up begins with an empty confirm queue and a full credit. -/
theorem confirmOk_startUp (s : State) (cause : RestartCause) (config : Bool) : ConfirmOk (s.startUp cause config) := by
  have hseq : (s.clearAll.announceRestart cause config).seq = Seq.cleared := seq_announceRestart ..
  have hconfirm : (s.startUp cause config).seq.confirm = [] :=
    (congrArg Seq.confirm (seq_choose _)).trans (congrArg Seq.confirm hseq)
  have hcredit : (s.startUp cause config).seq.credit = 2 := congrArg Seq.credit (seq_choose _)
  exact ⟨by simp [hconfirm], by simp [hconfirm], hcredit.le, by simp [hconfirm]⟩

/-- The start of a hard reset leaves the confirm queue to the Clear step that follows it. -/
theorem queueKept_hardStop (s : State) (power : Power) : QueueKept s { s.hardStop with power := power } := by
  have hsave : QueueKept s s.abandonSave := by
    unfold State.abandonSave
    split
    · exact .of_tables
    · exact .refl s
  exact hsave.trans .of_tables

theorem confirmOk_restartMultiAct {s : State} (payload : List Byte) (h : ConfirmOk s) :
    ConfirmOk (restartMultiAct payload s) := by
  unfold restartMultiAct
  split
  · exact confirmOk_startUp ..
  · exact h

theorem queueKept_restartUnitAct (s : State) : QueueKept s (restartUnitAct s).1 := by
  unfold restartUnitAct
  split <;> exact .refl s

theorem confirmOk_release {s : State} (cause : RestartCause) (straps : Straps) (h : ConfirmOk s) :
    ConfirmOk (s.release cause straps) := by
  unfold State.release
  dsimp only
  split
  · exact confirmOk_startUp ..
  · exact QueueKept.confirmOk .of_tables h

theorem confirmOk_finishLoad (s : State) (cause : RestartCause) (loaded : Option Settings) :
    ConfirmOk (s.finishLoad cause loaded) := by
  cases loaded with
  | some cfg => exact confirmOk_startUp ..
  | none => exact confirmOk_startUp ..

theorem queueKept_saveDone (s : State) (image : List Byte) : QueueKept s (s.saveDone image) :=
  .of_seq (sameSchedule_saveDone s image) (seq_ite (seq_moveCond ..) rfl)

/-! ## Every command -/

/-- The confirm queue stays in order in the next state of a command. -/
theorem confirmOk_next {s t : State} (h : (.next s : Host.Outcome State Fault Refusal) = .next t) (hs : ConfirmOk s) :
    ConfirmOk t := by
  cases h
  exact hs

/-- A request without operands. -/
theorem confirmOk_plain {s t : State} {p : Port} {dest kind : Byte} {payload : List Byte}
    {act : State → State × Answer} (h : ConfirmOk s)
    (hexec : (.next (s.deliverUnit p dest kind payload fun u => noPayload payload u act)
      : Host.Outcome State Fault Refusal) = .next t)
    (hact : ∀ u, QueueKept u (act u).1) : ConfirmOk t :=
  confirmOk_next hexec (confirmOk_deliver _ _ _ _ h
    (fun u hu => confirmOk_noPayload payload hu ((hact u).confirmOk hu)) fun _ hu => hu)

/-- A request whose payload parses into `α`. -/
theorem confirmOk_operands {α : Type} {s t : State} {p : Port} {dest kind : Byte} {payload : List Byte} {x : Option α}
    {act : α → State → State × Answer} (h : ConfirmOk s)
    (hexec : (.next (s.deliverUnit p dest kind payload fun u => parsed x u act)
      : Host.Outcome State Fault Refusal) = .next t)
    (hact : ∀ c u, ConfirmOk u → ConfirmOk (act c u).1) : ConfirmOk t :=
  confirmOk_next hexec (confirmOk_deliver _ _ _ _ h (fun u hu => confirmOk_parsed x hu fun c => hact c u hu)
    fun _ hu => hu)

/-- A request that acts the same way however it is addressed. -/
theorem confirmOk_anyAddress {s t : State} {p : Port} {dest kind : Byte} {payload : List Byte}
    {unit : State → State × Answer} (h : ConfirmOk s)
    (hexec : (.next (s.deliverAny p dest kind payload unit) : Host.Outcome State Fault Refusal) = .next t)
    (hact : ∀ u, ConfirmOk u → ConfirmOk (unit u).1) : ConfirmOk t :=
  confirmOk_next hexec (confirmOk_deliver _ _ _ _ h hact hact)

/-- Every command keeps the confirm queue in order; that LCONV and EBRG work on no subject that is OFF is the agreement of
the engines. -/
theorem exec_confirmOk (c : Instr) {s t : State} (hs : Scheduled s) (h : ConfirmOk s) (hexec : exec c s = .next t) :
    ConfirmOk t := by
  have hport : ∀ p x, ConfirmOk (s.setPort p x) := fun p x => (queueKept_setPort s p x).confirmOk h
  have wait : ∀ n, ConfirmOk (s.waitUntil n) := fun _ => QueueKept.confirmOk .of_tables h
  have waitScheduled : ∀ n, Scheduled (s.waitUntil n) := fun n => scheduled_congr hs (sameSchedule_waitUntil s n)
  cases c with
  | identify p dest pl | readDevice p dest pl | readSummary p dest pl | readScan p dest pl | readOutputs p dest pl =>
    exact confirmOk_plain h hexec QueueKept.refl
  | readLine p dest pl | readAmp p dest pl | readProfile p dest pl =>
    exact confirmOk_operands h hexec fun _ _ hu => hu
  | status p dest pl => exact confirmOk_plain h hexec fun u => .of_tables
  | poll p dest pl => exact confirmOk_operands h hexec fun m u => (queueKept_pollAct m u).confirmOk
  | setLine p dest pl order =>
    refine confirmOk_operands h hexec fun c u hu => ?_
    unfold setLineAct
    split
    · exact hu
    · exact confirmOk_applySetLine c order hu
  | setAmp p dest pl order => exact confirmOk_operands h hexec fun c u hu => confirmOk_applySetAmp c order hu
  | setAmpWide p dest pl => exact confirmOk_operands h hexec fun c u => (queueKept_applySetAmpWide c u).confirmOk
  | setProfile p dest pl => exact confirmOk_operands h hexec fun c u => (queueKept_applySetProfile c u).confirmOk
  | setLevels p dest pl | setGroups p dest pl =>
    exact confirmOk_operands h hexec fun _ _ => QueueKept.confirmOk .of_tables
  | setScan p dest pl => exact confirmOk_operands h hexec fun c u => (queueKept_applySetScan c u).confirmOk
  | setPilot p dest pl order =>
    exact confirmOk_operands h hexec fun c u => (queueKept_applySetPilot c.1 order u).confirmOk
  | setEarth p dest pl => exact confirmOk_operands h hexec fun c u => (queueKept_applySetEarth c u).confirmOk
  | setOutput p dest pl => exact confirmOk_operands h hexec fun c u => (queueKept_applySetOutput c u).confirmOk
  | learn p dest pl => exact confirmOk_operands h hexec fun c u => (queueKept_learnAct c u).confirmOk
  | abortLearn p dest pl => exact confirmOk_operands h hexec fun l u => (queueKept_abortLearnAct l u).confirmOk
  | testInject p dest pl => exact confirmOk_operands h hexec fun c u => (queueKept_testInjectAct c u).confirmOk
  | clearLatch p dest pl =>
    exact confirmOk_anyAddress h hexec fun u hu =>
      confirmOk_parsed _ hu fun xs => (queueKept_clearLatchAct xs u).confirmOk hu
  | clearMinmax p dest pl => exact confirmOk_operands h hexec fun ls u => (queueKept_clearMinmaxAct ls u).confirmOk
  | emergency p dest pl =>
    exact confirmOk_anyAddress h hexec fun u hu =>
      confirmOk_parsed _ hu fun zs => (queueKept_emergencyAct zs u).confirmOk hu
  | freeze p dest pl | unfreeze p dest pl =>
    exact confirmOk_anyAddress h hexec fun u hu => confirmOk_noPayload _ hu (QueueKept.confirmOk .of_tables hu)
  | saveImage p dest pl => exact confirmOk_plain h hexec queueKept_saveImageAct
  | restart p dest pl =>
    exact confirmOk_next hexec (confirmOk_deliver _ _ _ _ h
      (fun u hu => confirmOk_noPayload _ hu ((queueKept_restartUnitAct u).confirmOk hu))
      fun u hu => confirmOk_restartMultiAct _ hu)
  | unknownKind p dest kind pl =>
    refine confirmOk_next hexec ?_
    split
    · exact h
    · exact confirmOk_deliver _ _ _ _ h (fun _ hu => hu) fun _ hu => hu
  | frameDropped p why | frameGapTimeout p | receiveOverrun p dest kind | frameStart p | frameIgnored p dest kind =>
    refine confirmOk_next hexec ?_
    split
    · exact hport _ _
    · exact h
  | replyBegin p =>
    refine confirmOk_next hexec ?_
    split
    · split
      · exact h
      · exact (queueKept_setPort ..).confirmOk (wait _)
    · exact h
  | replySent p =>
    refine confirmOk_next hexec ?_
    split
    · exact (queueKept_setPort ..).confirmOk (QueueKept.confirmOk (s := s) .of_tables h)
    · exact h
  | softRestart =>
    refine confirmOk_next hexec ?_
    split
    · exact confirmOk_startUp ..
    · exact h
  | powerOn | powerLoss => exact confirmOk_next hexec ((queueKept_hardStop s _).confirmOk h)
  | pinReset =>
    refine confirmOk_next hexec ?_
    split
    · exact h
    · exact (queueKept_hardStop s _).confirmOk h
  | resetRelease addr baud source =>
    refine confirmOk_next hexec ?_
    split
    · exact confirmOk_release _ _ h
    · exact h
    · exact h
  | loadStepEnd ack =>
    refine confirmOk_next hexec ?_
    split
    · exact confirmOk_finishLoad ..
    · exact h
  | imageWriteEnd ack readBack =>
    refine confirmOk_next hexec ?_
    split
    · split
      · exact (queueKept_saveDone s _).confirmOk h
      · exact QueueKept.confirmOk .of_tables h
    · exact h
  | evacPinChange low =>
    refine confirmOk_next hexec ?_
    split
    · exact h
    · exact QueueKept.confirmOk .of_tables h
  | evacFilterExpiry =>
    refine confirmOk_next hexec ?_
    split
    · exact (queueKept_announceEntries ..).confirmOk (QueueKept.confirmOk (s := s) .of_tables h)
    · exact h
  | settleBlockEnd =>
    refine confirmOk_next hexec ?_
    split
    · split
      · exact h
      · exact QueueKept.confirmOk .of_tables h
    · exact h
  | sampleBlockEnd v i prog th su order =>
    refine confirmOk_next hexec ?_
    split
    · next m hm =>
      split
      · exact confirmOk_endSampleBlock (wait _) (waitScheduled _) hm _ (subject_sampleBlock ..) th su order
      · exact h
    · exact h
  | periodCountComplete count =>
    refine confirmOk_next hexec ?_
    split
    · split
      · split
        · exact QueueKept.confirmOk .of_tables h
        · exact h
      all_goals exact h
    · exact h
  | periodCountGiveUp =>
    refine confirmOk_next hexec ?_
    split
    · split
      · exact QueueKept.confirmOk .of_tables h
      all_goals exact h
    · exact h
  | periodWaitExpiry =>
    refine confirmOk_next hexec ?_
    split
    · exact (queueKept_startRound _).confirmOk (wait _)
    · exact h
  | soakEnd bias =>
    refine confirmOk_next hexec ?_
    split
    · exact confirmOk_endSoak (wait _) _ _
    all_goals exact h
  | leakageBlockEnd code =>
    refine confirmOk_next hexec ?_
    split
    · next t0 ht => exact confirmOk_endLeakageBlock (wait _) (waitScheduled _) ht _ rfl
    all_goals exact h
  | pulsePhaseExpiry o | freezeExpiry =>
    refine confirmOk_next hexec ?_
    split
    · exact QueueKept.confirmOk .of_tables h
    · exact h

/-- Settles O9, an inductive invariant: no act but a vote puts an entry in the confirm queue, a vote is taken on a subject
that LCONV or EBRG works on, which is not OFF, and a subject set OFF leaves the queue. -/
theorem stepKeepsConfirmQueue : Obligations.StepKeepsConfirmQueue := by
  unfold Obligations.StepKeepsConfirmQueue
  intro s t hs h hstep
  unfold step at hstep
  split at hstep
  · exact confirmOk_next hstep (QueueKept.confirmOk .of_tables h)
  · exact exec_confirmOk _ (scheduled_congr hs .of_parts) (QueueKept.confirmOk .of_tables h) hstep

end Sys2Proof.Machine.Scan
end

section
/-! SUPPORT. The walk along the ring and the ends of a grant decision: a confirm grant, a slot grant, or the end of the
round, and the obligations about grants and rounds (R60 to R70). -/

namespace Sys2Proof.Machine.Scan

open Converter

/-! ## The walk along the ring (R62) -/

/-- SEQ after the walk has gone past the entries `es`: each one marked at its position, PASSED where its subject is OFF and
SKIPPED otherwise, and counted. -/
def wentPast (off : RingEntry → Bool) (es : List RingEntry) (q : Seq) : Seq :=
  { q with
    pointer := q.pointer + es.length
    skips := q.skips ++ es.zipIdx.map fun x =>
      { position := q.pointer + x.2, kind := if off x.1 then .passed else .skipped }
    counts :=
      { q.counts with
        passed := q.counts.passed + es.countP off
        skipped := q.counts.skipped + es.countP fun e => !off e } }

theorem wentPast_nil (off : RingEntry → Bool) (q : Seq) : wentPast off [] q = q := by simp [wentPast]

theorem wentPast_cons (off : RingEntry → Bool) (e : RingEntry) (es : List RingEntry) (q : Seq) :
    wentPast off (e :: es) q = wentPast off es (q.skip (if off e then .passed else .skipped)) := by
  have hmarks : ∀ n, (es.zipIdx 1).map (fun x : RingEntry × Nat =>
        ({ position := n + x.2, kind := if off x.1 then .passed else .skipped } : SkipMark))
      = es.zipIdx.map fun x => { position := n + 1 + x.2, kind := if off x.1 then .passed else .skipped } := fun n => by
    rw [List.zipIdx_succ, List.map_map]
    exact List.map_congr_left fun x _ => by simp [Nat.add_assoc, Nat.add_comm 1]
  cases hoff : off e with
  | false => simp [wentPast, Seq.skip, hoff, hmarks, Nat.add_assoc, Nat.add_comm 1]
  | true => simp [wentPast, Seq.skip, hoff, hmarks, Nat.add_assoc, Nat.add_comm 1]

/-- The walk goes past entries that are OFF or held, and on from there (R62). -/
theorem walkRing_past (before rest : List RingEntry) (s : State)
    (h : ∀ x ∈ before, s.isOff x.subject = true ∨ s.entryHeld x = true) :
    State.walkRing (before ++ rest) s
      = State.walkRing rest { s with seq := wentPast (fun e => s.isOff e.subject) before s.seq } := by
  induction before generalizing s with
  | nil => rw [wentPast_nil]; rfl
  | cons e es ih =>
    obtain ⟨he, hes⟩ := List.forall_mem_cons.mp h
    rw [wentPast_cons]
    by_cases hoff : s.isOff e.subject = true
    · rw [List.cons_append, walkRing_off _ hoff, if_pos hoff]
      exact ih { s with seq := s.seq.skip .passed } hes
    · rw [List.cons_append, walkRing_held _ hoff (he.resolve_left hoff), if_neg hoff]
      exact ih { s with seq := s.seq.skip .skipped } hes

/-! ## The choice between the confirm queue and the ring (R69, R70) -/

theorem not_eligible_iff (s : State) (e : RingEntry) :
    ¬s.eligible e = true ↔ s.isOff e.subject = true ∨ s.entryHeld e = true := by
  cases hoff : s.isOff e.subject <;> simp [State.eligible, hoff]

/-- Without credit, or without an eligible entry, the decision turns to the ring. -/
theorem grantDecision_ring {s : State} (hg : s.seq.state = .granted)
    (h : s.seq.credit = 0 ∨ ∀ x ∈ s.seq.confirm, s.isOff x.subject = true ∨ s.entryHeld x = true) :
    s.grantDecision = State.walkRing (s.cfg.ring.drop s.seq.pointer) s := by
  have hnone : s.confirmChoice = none := by
    unfold State.confirmChoice
    split
    · rfl
    · next hcredit =>
      exact List.find?_eq_none.mpr fun x hx => (not_eligible_iff s x).mpr (h.resolve_left hcredit x hx)
  rw [State.grantDecision, if_pos hg, hnone]

/-- With credit, the oldest eligible entry is granted. -/
theorem grantDecision_confirm {s : State} (hg : s.seq.state = .granted) {older younger : List RingEntry} {e : RingEntry}
    (hcredit : s.seq.credit ≠ 0) (hconfirm : s.seq.confirm = older ++ e :: younger)
    (holder : ∀ x ∈ older, s.isOff x.subject = true ∨ s.entryHeld x = true) (he : s.eligible e = true) :
    s.grantDecision = s.grantConfirm e := by
  have hchoice : s.confirmChoice = some e := by
    rw [State.confirmChoice, if_neg hcredit, hconfirm, List.find?_append,
      List.find?_eq_none.mpr fun x hx => (not_eligible_iff s x).mpr (holder x hx), List.find?_cons_of_pos he]
    rfl
  rw [State.grantDecision, if_pos hg, hchoice]

/-- Settles O56, a case for the confirm queue and one for the ring: the entry taken out of the queue is the one chosen, for
no older one is eligible, and the walk has gone past the entries before the one it grants. -/
theorem grantsAreChosen : Obligations.GrantsAreChosen := by
  unfold Obligations.GrantsAreChosen
  intro s hg
  refine ⟨fun older e younger hcredit hconfirm holder hoff hheld => ?_,
    fun before e after hnone hring hbefore hoff hheld => ?_⟩
  · have he : s.eligible e = true := by simp [State.eligible, hoff, hheld]
    have hnew : e ∉ older := fun hmem => (not_eligible_iff s e).mpr (holder e hmem) he
    have herase : s.seq.confirm.erase e = older ++ younger := by
      rw [hconfirm, List.erase_append_right _ hnew, List.erase_cons_head]
    rw [grantDecision_confirm hg hcredit hconfirm holder he, State.grantConfirm, herase]
    rfl
  · rw [grantDecision_ring hg hnone, hring, walkRing_past before _ s hbefore]
    exact walkRing_grant (s := { s with seq := wentPast (fun x => s.isOff x.subject) before s.seq }) after
      (Bool.eq_false_iff.mp hoff) (Bool.eq_false_iff.mp hheld)

/-! ## The end of a round (R63, R64, R152) -/

theorem roundIsLate_iff (s : State) :
    s.roundIsLate = true ↔ s.seq.periodInUse = 0 ∨ s.seq.periodInUse * 24576 ≤ s.clock - s.seq.roundStart := by
  simp only [State.roundIsLate, Bool.or_eq_true, decide_eq_true_eq]
  rfl

/-- Settles O57: the end of a period wait is a round start, and the end of a round is met after a walk past everything left
on the ring, a case each for a round that is late and for one that waits. -/
theorem roundsEndAndStart : Obligations.RoundsEndAndStart := by
  unfold Obligations.RoundsEndAndStart
  refine ⟨fun s hwait => congrArg Host.Outcome.next (if_pos hwait), ?_⟩
  intro s hg hnone hleft left counts stats late counted fout
  let past : State := { s with seq := wentPast (fun x => s.isOff x.subject) left s.seq }
  have hend : s.grantDecision = past.endRound := by
    rw [grantDecision_ring hg hnone]
    exact (congrArg (State.walkRing · s) (List.append_nil left).symm).trans (walkRing_past left [] s hleft)
  have hlate : past.roundIsLate = true ↔ late := roundIsLate_iff s
  by_cases h : late
  · rw [hend, endRound_late (hlate.mpr h), if_pos h]
    dsimp only
    rw [hg]
    rfl
  · rw [hend, endRound_early (mt hlate.mp h), if_neg h]
    rfl

end Sys2Proof.Machine.Scan
end

section
/-! SUPPORT. The reads that are always live: each is a reading of the state as its request is taken, and what READ-OUTPUTS
tells of a pin and of the offending subjects (R76, R154, R161, R172). -/

namespace Sys2Proof.Machine.Scan

open Converter

/-- A live read that the part takes is answered DONE with what it reports, whether or not a freeze is in force, and changes
nothing but its port. -/
theorem deliverUnit_liveRead {s : State} {p : Port} {dest kind : Byte} {payload : List Byte}
    {unit : State → State × Answer} (c : State → Content) (h : s.takes p dest) (hkind : frozenKind kind = false)
    (hlen : payload.length ≤ 200) (hunit : unit (s.hunt p) = reading c (s.hunt p)) (hc : c (s.hunt p) = c s) :
    s.deliverUnit p dest kind payload unit
      = s.answered p kind { status := .done, view := .live, content := c s } none := by
  have hview : (s.hunt p).viewFor kind = .live := by simp [State.viewFor, hkind]
  unfold State.deliverUnit
  rw [State.deliver_of_takes s p dest kind payload unit id h hlen, hunit, hview]
  exact (s.holdFrame_hunt p kind _ _).trans (by rw [← hc]; rfl)

/-- An IDENTIFY for this part is taken in either phase (R158, R172). -/
theorem exec_identify {s : State} {p : Port} {dest : Byte} (hpower : s.poweredUp = true) (hfree : (s.port p).held = none)
    (hdest : dest.toNat = s.straps.unit) :
    exec (.identify p dest []) s
      = .next ((s.hunt p).holdFrame p 0x01 .live (.full .done (identifyContent (s.hunt p)))) := by
  change Host.Outcome.next (s.deliverUnit p dest identifyKind [] _) = _
  simp only [State.deliverUnit, State.deliver, s.hears_of_free p hpower hfree, State.delivery, hdest, hfree,
    State.takeUnit, if_true, ne_eq, not_true_eq_false, and_false, if_false, List.length_nil, Nat.not_lt_zero,
    Option.isSome_none, Bool.false_eq_true]
  rfl

/-! ## READ-OUTPUTS (R150, R151, R154) -/

theorem drive_eq (l : OutLive) (o : OutSettings) :
    l.drive o = match l.state with
      | .off | .starting _ => .highImpedance
      | .running =>
        if l.unhealthy = true ∨ (o.mode = .pulsed ∧ l.pulse.map Pulse.asserted = some true) then .asserted
        else .released := by
  unfold OutLive.drive
  cases l.state with
  | off | starting => rfl
  | running =>
    cases l.unhealthy with
    | true => rfl
    | false => cases o.mode <;> simp

theorem mem_condsOf (x : Subject) (id : CondId) : id ∈ condsOf x ↔ id.subject = x := by
  refine ⟨fun h => ?_, ?_⟩
  · cases x <;> obtain ⟨k, -, rfl⟩ := List.mem_map.mp h <;> rfl
  · rintro rfl
    cases id with
    | line l k | amp a k | dev k => exact List.mem_map_of_mem (by cases k <;> decide)

theorem mem_allSubjects (x : Subject) : x ∈ allSubjects := by
  cases x with
  | line l => exact List.mem_append_left _ (List.mem_append_left _ (List.mem_map_of_mem (List.mem_finRange l)))
  | amp a => exact List.mem_append_left _ (List.mem_append_right _ (List.mem_map_of_mem (List.mem_finRange a)))
  | dev => exact List.mem_append_right _ List.mem_cons_self

theorem sees_iff (o : OutSettings) (k : Kind) (c : Cond) :
    o.sees k c = true ↔ maskHolds o.mask k = true ∧ (if o.latched then c.latch = true else c.state = .active) := by
  unfold OutSettings.sees
  cases o.latched <;> simp

/-- A condition kind makes an output unhealthy on a subject where a condition record of that kind and subject does. -/
theorem mem_offendingKinds (s : State) (o : OutSettings) (x : Subject) (k : Kind) :
    k ∈ s.offendingKinds o x ↔ ∃ id : CondId, id.subject = x ∧ id.kind = k ∧ o.sees k (s.cond id) = true := by
  simp only [State.offendingKinds, List.mem_map, List.mem_filter, mem_condsOf]
  constructor
  · rintro ⟨id, ⟨hx, hsees⟩, rfl⟩
    exact ⟨id, hx, rfl, hsees⟩
  · rintro ⟨id, hx, rfl, hsees⟩
    exact ⟨id, ⟨hx, hsees⟩, rfl⟩

/-- The offending subjects are the counted ones, each with its offending kinds, where it has any (R154). -/
theorem mem_offenders (s : State) (o : OutSettings) (x : Subject) (k : Kind) :
    (∃ ks, (x, ks) ∈ s.offenders o ∧ k ∈ ks) ↔ s.counted x = true ∧ k ∈ s.offendingKinds o x := by
  simp only [State.offenders, List.mem_filter, List.mem_map, Prod.mk.injEq]
  constructor
  · rintro ⟨ks, ⟨⟨y, ⟨-, hcounted⟩, rfl, rfl⟩, -⟩, hk⟩
    exact ⟨hcounted, hk⟩
  · rintro ⟨hcounted, hk⟩
    exact ⟨_, ⟨⟨x, ⟨mem_allSubjects x, hcounted⟩, rfl, rfl⟩, by simp [List.ne_nil_of_mem hk]⟩, hk⟩

/-- Settles O25: IDENTIFY in either phase, three reads of the live state, and the drive and the offenders that READ-OUTPUTS
reports. -/
theorem liveReadsAreServed : Obligations.LiveReadsAreServed := by
  unfold Obligations.LiveReadsAreServed
  intro s p dest
  refine ⟨fun hpower hfree hdest => ?_,
    fun h => ⟨fun i => ?_, ?_, ?_, fun o => ⟨rfl, rfl, rfl, drive_eq _ _, fun hbad x k => ?_⟩⟩⟩
  · rw [exec_identify hpower hfree hdest]
    cases p <;> rfl
  · exact congrArg Host.Outcome.next (deliverUnit_liveRead (fun s => .profile s.cfg.profiles[i]) h (by decide) (by simp)
      (by rw [oneByteSelector_ofNat i (by decide)]; rfl) (by cases p <;> rfl))
  · exact congrArg Host.Outcome.next (deliverUnit_liveRead (fun s => .scan (scanReport s)) h (by decide) (by simp)
      rfl (by cases p <;> rfl))
  · exact congrArg Host.Outcome.next (deliverUnit_liveRead
      (fun s => .outputs (outputReport s .fltA) (outputReport s .fltB)) h (by decide) (by simp) rfl (by cases p <;> rfl))
  · have hlist : (outputReport s o).offenders = s.offenders (s.cfg.out o) := if_pos hbad
    rw [hlist, mem_offenders, mem_offendingKinds]
    refine and_congr_right fun _ => exists_congr fun id => and_congr_right fun _ => and_congr_right fun _ => sees_iff ..

end Sys2Proof.Machine.Scan
end

section
/-! SUPPORT. The end of a soak as one turn of BRIDGE with the line's record beside it, SET-EARTH as what it makes of EBRG,
and the obligations about the two (R80 to R83, R87, R88). -/

namespace Sys2Proof.Machine.EarthBridge

open Converter Leakage

/-! ## The vote of a bias check (R83, R115) -/

theorem turnTo_withEbrg (s : State) (e : Ebrg) (id : CondId) (c : Cond) :
    turnTo { s with ebrg := e } id c = { turnTo s id c with ebrg := e } := by
  unfold turnTo
  change (if decide ((s.cond id).state = .active) ≠ decide (c.state = .active) then _ else _) = _
  split <;> rfl

/-- At the end of a soak BRIDGE has turned by one vote, with the earth records given beside it; EBRG has not moved yet. -/
def bridgeVoted (s : State) (due : Nat) (judged : Vote) (res : Vector EarthResult 24) : State :=
  beside ((s.waitUntil due).movedInTurn (fun _ => s.voted (.dev .bridge) judged) [.dev .bridge])
    { s.recs with earthRes := res } (s.nqAfterVote (.dev .bridge) judged none) s.seq s.firstCount

section
variable (s : State) (due : Nat) (judged : Vote) (res : Vector EarthResult 24) (e : Ebrg)

theorem vote_bridge :
    ({ s.waitUntil due with ebrg := e, recs := { s.recs with earthRes := res } } : State).vote (.dev .bridge) judged none
      = { bridgeVoted s due judged res with ebrg := e } := by
  have hvote := vote_beside_afterMove (s := { s.waitUntil due with ebrg := e }) (v := { s.waitUntil due with ebrg := e })
    (res := { s.recs with earthRes := res }) (nq := s.nq) (seq := s.seq) (marks := s.firstCount) (id := .dev .bridge)
    (.refl _) rfl rfl judged none
  have hpush : ∀ w : State, w.push (CondId.dev .bridge).subject = w := fun _ => rfl
  simp only [hpush, ite_self, turnTo_withEbrg] at hvote
  exact hvote

theorem bridgeVoted_eq : bridgeVoted s due judged res
    = { s with
        clock := max s.clock due
        recs := (bridgeVoted s due judged res).recs
        nq := s.nqAfterVote (.dev .bridge) judged none
        fout := (bridgeVoted s due judged res).fout } := by
  have hturns := judging_movedInTurn (s.waitUntil due) (fun _ => s.voted (.dev .bridge) judged) [.dev .bridge]
  unfold bridgeVoted
  generalize (s.waitUntil due).movedInTurn _ _ = v at hturns ⊢
  exact beside_eq hturns ..

theorem cond_bridgeVoted (id : CondId) :
    (bridgeVoted s due judged res).cond id
      = if id = .dev .bridge then (s.cond id).afterVote judged .r2oo3 s.seq.round else s.cond id := by
  rw [bridgeVoted, cond_beside, cond_movedInTurn]
  by_cases hid : id = .dev .bridge
  · rw [if_pos (List.mem_singleton.mpr hid), if_pos hid, hid]
    rfl
  · rw [if_neg (mt List.mem_singleton.mp hid), if_neg hid]
    rfl

/-- FOUT is told where BRIDGE enters ACTIVE or leaves it, and of nothing else (R150). -/
theorem outputsTold_bridgeVoted : OutputsTold s { bridgeVoted s due judged res with ebrg := e } [.dev .bridge] := by
  have hturns := judging_movedInTurn (s.waitUntil due) (fun _ => s.voted (.dev .bridge) judged) [.dev .bridge]
  have hview : SameView s (bridgeVoted s due judged res) := ⟨hturns.cfg, hturns.zones, hturns.evac, rfl⟩
  have hst := hview.standing
  have hcond : ∀ id, (bridgeVoted s due judged res).cond id
      = ((s.waitUntil due).movedInTurn (fun _ => s.voted (.dev .bridge) judged) [.dev .bridge]).cond id :=
    fun id => by rw [bridgeVoted, cond_beside]
  exact outputsTold_of_turns ⟨rfl, rfl, hcond⟩ (congrArg Settings.outA hview.cfg)
    (congrArg Settings.outB hview.cfg) ⟨hst.state, hst.feeds, hst.zone, hst.amp, hst.zones, hst.evac⟩

/-- EBRG's next choice after the vote moves EBRG alone, from the walk as it stood. -/
theorem choose_bridgeVoted (bias : Option Nat) :
    ∃ e : Ebrg,
      ({ bridgeVoted s due judged res with ebrg := { s.ebrg with mode := .idle, lastBias := bias } } : State).choose
        = { bridgeVoted s due judged res with ebrg := e }
      ∧ e.lastBias = bias ∧ ChoiceMade s e (max s.clock due) := by
  have hchoice := choiceMade_choose
    { bridgeVoted s due judged res with ebrg := { s.ebrg with mode := .idle, lastBias := bias } }
  refine ⟨_, choose_frame _, choose_lastBias _, ?_⟩
  rw [bridgeVoted_eq] at hchoice ⊢
  exact hchoice

end

/-! ## The end of a soak (R80, R83) -/

/-- A soak that ends while EBRG soaks is judged at its due instant (R83). -/
theorem exec_soakEnd {s : State} {t : EarthTest} (bias : BiasReading) (hmode : s.ebrg.mode = .soaking t) :
    exec (.soakEnd bias) s = .next ((s.waitUntil (t.biasOn + t.soak.ms * 24576)).endSoak t bias.val) := by
  change execSoakEnd bias s = _
  rw [execSoakEnd, hmode]
  rfl

/-- The judgement of a bias check (R83). -/
def soakVote (bias : Nat) : Vote := if 220 ≤ bias then .clean else .bad

/-- The earth records after a bias check: only a failed one writes its line's (R83). -/
def soakRecords (s : State) (t : EarthTest) (bias : Nat) : Vector EarthResult 24 :=
  if 220 ≤ bias then s.recs.earthRes else s.recs.earthRes.set t.line (failedSoakRecord s.seq.round bias)

/-- The end of a soak is the vote of BRIDGE with its record, and moves EBRG: to the leakage blocks of the test after a good
bias, and to its next choice, from the walk as it stood, after one that is not. -/
theorem endSoak_cases (s : State) (due : Nat) (t : EarthTest) (bias : Nat) :
    ∃ e : Ebrg,
      (s.waitUntil due).endSoak t bias = { bridgeVoted s due (soakVote bias) (soakRecords s t bias) with ebrg := e }
      ∧ e.lastBias = some bias
      ∧ (220 ≤ bias → e.mode = .measuring { t with blockStart := t.biasOn + t.soak.ms * 24576 } ∧ e.walk = s.ebrg.walk)
      ∧ (¬220 ≤ bias → ChoiceMade s e (max s.clock due)) := by
  by_cases hgood : 220 ≤ bias
  · have hvote := vote_bridge s due .clean s.recs.earthRes { s.ebrg with lastBias := some bias }
    have hend : (s.waitUntil due).endSoak t bias = _ := (if_pos hgood).trans (congrArg (State.setMode · _) hvote)
    rw [soakVote, soakRecords, if_pos hgood, if_pos hgood]
    exact ⟨_, hend, rfl, fun _ => ⟨rfl, rfl⟩, fun hbad => absurd hgood hbad⟩
  · have hvote := vote_bridge s due .bad (s.recs.earthRes.set t.line (failedSoakRecord s.seq.round bias))
      { s.ebrg with mode := .idle, lastBias := some bias }
    have hend : (s.waitUntil due).endSoak t bias = _ := (if_neg hgood).trans (congrArg State.choose hvote)
    obtain ⟨e, hchoose, hbias, hchoice⟩ := choose_bridgeVoted s due .bad
      (s.recs.earthRes.set t.line (failedSoakRecord s.seq.round bias)) (some bias)
    rw [soakVote, soakRecords, if_neg hgood, if_neg hgood]
    exact ⟨e, hend.trans hchoose, hbias, fun h => absurd h hgood, fun _ => hchoice⟩

/-- Settles O58: the vote of BRIDGE and the record are `bridgeVoted`'s, and what EBRG then does is `endSoak_cases`. -/
theorem soakIsJudged : Obligations.SoakIsJudged := by
  unfold Obligations.SoakIsJudged
  intro s t0 bias hmode due good judged
  obtain ⟨e, hend, hbias, hgood, hchoice⟩ := endSoak_cases s due t0 bias.val
  have heq := bridgeVoted_eq s due (soakVote bias.val) (soakRecords s t0 bias.val)
  rw [exec_soakEnd bias hmode, hend]
  refine ⟨_, rfl, congrArg (fun u : State => { u with ebrg := e }) heq, outputsTold_bridgeVoted .., hbias, hgood,
    fun hfailed => ?_, rfl, cond_bridgeVoted s due judged _, rfl, rfl, rfl, rfl, rfl⟩
  rw [heq]
  exact hchoice hfailed

/-! ## What a change of the supervision setting makes of EBRG (R80, R81, R88) -/

/-- A choice moves EBRG alone and looks at no port. -/
theorem choose_link (s : State) (k : Link) :
    ({ s with link := k } : State).choose = { s with link := k, ebrg := s.choose.ebrg } := by
  by_cases hon : s.cfg.earth.supervision = true ∧ s.boot.phase = .running
  · obtain ⟨hsupervised, hrunning⟩ := hon
    cases hnext : s.nextOnWalk with
    | none => rw [choose_idle (.inr hnext), choose_idle (s := { s with link := k }) (.inr hnext)]; rfl
    | some l =>
      rw [choose_line hsupervised hrunning hnext, choose_line (s := { s with link := k }) hsupervised hrunning hnext]
      rfl
  · rw [choose_idle (.inl hon), choose_idle (s := { s with link := k }) (.inl hon)]; rfl

theorem reactSupervision_link (s : State) (k : Link) (old new : Bool) :
    ({ s with link := k } : State).reactSupervision old new
      = { s with link := k, ebrg := (s.reactSupervision old new).ebrg } := by
  cases old with
  | true => cases new <;> rfl
  | false =>
    cases new with
    | true => exact choose_link s k
    | false => rfl

/-- EBRG after a SET-EARTH that leaves the settings `new` in force. -/
def bridgeTurned (s : State) (new : EarthSettings) : Ebrg :=
  (({ s with cfg := { s.cfg with earth := new } } : State).reactSupervision s.cfg.earth.supervision new.supervision).ebrg

theorem bridgeTurned_hunt (s : State) (p : Port) (new : EarthSettings) :
    bridgeTurned (s.hunt p) new = bridgeTurned s new := by
  have hlink : s.hunt p = { s with link := (s.hunt p).link } := by cases p <;> rfl
  have hturned := congrArg State.ebrg (reactSupervision_link { s with cfg := { s.cfg with earth := new } } (s.hunt p).link
    s.cfg.earth.supervision new.supervision)
  rw [hlink]
  exact hturned

section
variable {s : State} {new : EarthSettings}

theorem bridgeTurned_same (h : s.cfg.earth.supervision = new.supervision) : bridgeTurned s new = s.ebrg := by
  unfold bridgeTurned
  rw [h]
  cases new.supervision <;> rfl

/-- Supervision turned OFF leaves EBRG IDLE, with the walk back at the line whose test or wait it ends (R88). -/
theorem bridgeTurned_off (hold : s.cfg.earth.supervision = true) (hnew : new.supervision = false) :
    (bridgeTurned s new).mode = .idle ∧ (bridgeTurned s new).walk = s.ebrg.mode.chosen.getD s.ebrg.walk
      ∧ (bridgeTurned s new).lastBias = s.ebrg.lastBias := by
  have hoff : bridgeTurned s new = s.ebrg.turnOff := by
    unfold bridgeTurned
    rw [hold, hnew]
    rfl
  rw [hoff, Ebrg.turnOff]
  cases hchosen : s.ebrg.mode.chosen with
  | some l => exact ⟨rfl, rfl, rfl⟩
  | none => exact ⟨(idle_iff _).mpr hchosen, rfl, rfl⟩

theorem bridgeTurned_on (hold : s.cfg.earth.supervision = false) (hnew : new.supervision = true) :
    bridgeTurned s new = ({ s with cfg := { s.cfg with earth := new } } : State).choose.ebrg := by
  unfold bridgeTurned
  rw [hold, hnew]
  rfl

end

/-! ## SET-EARTH (R87, R88) -/

/-- An accepted SET-EARTH writes the earth settings, EBRG and the counter. -/
theorem applySetEarth_eq (c : EarthChange) (s : State) :
    applySetEarth c s
      = ({ s with
          cfg := { s.cfg with earth := c.write s.cfg.earth }
          ebrg := bridgeTurned s (c.write s.cfg.earth) } : State).advanced :=
  reactSupervision_link { s with cfg := { s.cfg with earth := c.write s.cfg.earth } } s.bumpCounter.link _ _

/-- A SET-EARTH that is taken acts where its payload parses, and is answered with what is then in force. -/
theorem exec_setEarth {s : State} {p : Port} {dest : Byte} {payload : List Byte} {c : EarthChange} (h : s.takes p dest)
    (hlen : payload.length ≤ 200) (hparse : parseSetEarth payload = some c) :
    exec (.setEarth p dest payload) s
      = .next ((setEarthAct c (s.hunt p)).1.holdFrame p 0x28 .live (setEarthAct c (s.hunt p)).2) := by
  change Host.Outcome.next (s.deliverUnit p dest 0x28 payload fun u => parsed (parseSetEarth payload) u setEarthAct) = _
  rw [hparse, State.deliverUnit, State.deliver_of_takes s p dest 0x28 payload _ id h hlen]
  rfl

/-- Settles O38: EBRG after the request is `bridgeTurned`, which the lemmas above give for each change of supervision. -/
theorem setEarthTurnsTheWalk : Obligations.SetEarthTurnsTheWalk := by
  unfold Obligations.SetEarthTurnsTheWalk
  intro s p dest pl c h hlen hparse old new
  refine ⟨bridgeTurned s new, ?_, bridgeTurned_same, bridgeTurned_off, fun hold hnew => ?_⟩
  · have hcfg : (s.hunt p).cfg = s.cfg := by cases p <;> rfl
    rw [exec_setEarth h hlen hparse, setEarthAct, applySetEarth_eq, bridgeTurned_hunt, hcfg]
    cases p <;> rfl
  · obtain ⟨-, hrunning, -, -⟩ := h
    let u : State := { s with cfg := { s.cfg with earth := new } }
    rw [bridgeTurned_on hold hnew]
    refine ⟨fun hlines => ?_, fun d hbefore hon => ?_⟩
    · rw [choose_idle (.inr (nextOnWalk_none (s := u) hlines))]
      rfl
    · rw [choose_line (s := u) hnew hrunning (nextOnWalk_some hbefore hon)]
      exact ⟨rfl, rfl, rfl⟩

end Sys2Proof.Machine.EarthBridge
end

section
/-! SUPPORT. One condition record on its way through an act of CEVAL: which acts keep it well formed, settled under its rule,
empty and cleared, said for a record and then for a whole state. -/

namespace Sys2Proof.Machine.Judge

open Converter Scan

/-! ## One record (R107 to R111, R118, R121, R125, R126) -/

/-- A record has gone from `c` to `d` under the rule `r`: what the invariants ask of it is kept, and no injection has been
added. Only a record that may take a vote can have left the empty or the cleared form. -/
structure RecordKept (voted : Bool) (r : VoteRule) (votable : Prop) (c d : Cond) : Prop where
  shape : c.ShapeOk voted → d.ShapeOk voted
  settled : (voted = true → c.judged r = c.state) → voted = true → d.judged r = d.state
  injection : d.injection.isSome = true → c.injection.isSome = true
  empty : ¬votable → c.window = [] ∧ c.state = .clear → d.window = [] ∧ d.state = .clear
  cleared : ¬votable → c.isCleared → d.isCleared

section
variable {voted : Bool} {r : VoteRule} {votable : Prop} {c d e : Cond}

theorem RecordKept.refl : RecordKept voted r votable c c := ⟨id, id, id, fun _ => id, fun _ => id⟩

theorem RecordKept.trans (h : RecordKept voted r votable c d) (k : RecordKept voted r votable d e) :
    RecordKept voted r votable c e :=
  ⟨k.shape ∘ h.shape, k.settled ∘ h.settled, h.injection ∘ k.injection, fun hv => k.empty hv ∘ h.empty hv,
    fun hv => k.cleared hv ∘ h.cleared hv⟩

/-- Where a vote may be taken after an act, it may be taken before it. -/
theorem RecordKept.weaken {votable' : Prop} (h : RecordKept voted r votable' c d) (hv : votable' → votable) :
    RecordKept voted r votable c d :=
  ⟨h.shape, h.settled, h.injection, fun hn => h.empty (mt hv hn), fun hn => h.cleared (mt hv hn)⟩

/-! ### Judging a window (R111, Table 7.3) -/

theorem judged_of_empty (h : c.window = []) : c.judged r = .clear := by simp [Cond.judged, badCount, h, nextCondState]

/-- Judging twice is judging once. -/
theorem nextCondState_idem (k : Nat) (before : CondState) (b : Nat) :
    nextCondState k (nextCondState k before b) b = nextCondState k before b := by
  unfold nextCondState
  by_cases hb : b = 0
  · simp [hb]
  · by_cases hk : b < k <;> cases before <;> simp [hb, hk]

theorem judged_reevaluated (c : Cond) (r : VoteRule) (round : Round) :
    (c.reevaluated r round).judged r = (c.reevaluated r round).state := by
  have hwindow : (c.reevaluated r round).window = c.window := by
    rw [reevaluated_eq]
    split <;> rfl
  rw [Cond.judged, hwindow, state_reevaluated]
  exact nextCondState_idem ..

/-! ### What each act makes of a record -/

theorem shapeOk_emptied (round : Round) (h : c.ShapeOk voted) : (c.emptied round).ShapeOk voted :=
  ⟨Nat.zero_le _, nofun, h.injection_range, fun hv => ⟨rfl, (h.unvoted hv).2.1, nofun⟩⟩

theorem recordKept_emptied (round : Round) : RecordKept voted r votable c (c.emptied round) where
  shape := shapeOk_emptied round
  settled _ _ := judged_of_empty rfl
  injection := id
  empty _ _ := ⟨rfl, rfl⟩
  cleared _ := fun ⟨_, _, hlatch, hinjection⟩ => ⟨rfl, rfl, hlatch, hinjection⟩

theorem recordKept_turnedOff (round : Round) : RecordKept voted r votable c (c.turnedOff round) where
  shape _ := ⟨Nat.zero_le _, nofun, nofun, fun _ => ⟨rfl, rfl, nofun⟩⟩
  settled _ _ := judged_of_empty rfl
  injection := nofun
  empty _ _ := ⟨rfl, rfl⟩
  cleared _ _ := ⟨rfl, rfl, rfl, rfl⟩

/-- The latch of a condition that is not ACTIVE goes (R122). -/
theorem recordKept_unlatched (h : c.state ≠ .active) : RecordKept voted r votable c { c with latch := false } where
  shape k := ⟨k.window_le, fun ha => absurd ha h, k.injection_range, k.unvoted⟩
  settled := id
  injection := id
  empty _ := id
  cleared _ := fun ⟨hwindow, hstate, _, hinjection⟩ => ⟨hwindow, hstate, rfl, hinjection⟩

theorem active_latched_reevaluated (round : Round) (h : c.state = .active → c.latch = true)
    (ha : (c.reevaluated r round).state = .active) : (c.reevaluated r round).latch = true := by
  rw [state_reevaluated] at ha
  rw [reevaluated_eq]
  split
  · next hsame => exact h (hsame.trans ha)
  · simp [Cond.move, ha]

theorem window_reevaluated (c : Cond) (r : VoteRule) (round : Round) : (c.reevaluated r round).window = c.window := by
  rw [reevaluated_eq]
  split <;> rfl

theorem injection_reevaluated (c : Cond) (r : VoteRule) (round : Round) :
    (c.reevaluated r round).injection = c.injection := by
  rw [reevaluated_eq]
  split <;> rfl

/-- An empty window has nothing to re-evaluate in a CLEAR condition. -/
theorem reevaluated_of_empty (round : Round) (hwindow : c.window = []) (hclear : c.state = .clear) :
    c.reevaluated r round = c := by
  rw [reevaluated_eq, judged_of_empty hwindow, if_pos hclear]

theorem recordKept_reevaluated (round : Round) : RecordKept voted r votable c (c.reevaluated r round) where
  shape k :=
    { window_le := by rw [window_reevaluated]; exact k.window_le
      active_latched := active_latched_reevaluated round k.active_latched
      injection_range := by rw [injection_reevaluated]; exact k.injection_range
      unvoted := fun hv => by
        obtain ⟨hwindow, hinjection, -⟩ := k.unvoted hv
        rw [window_reevaluated, injection_reevaluated, state_reevaluated, judged_of_empty hwindow]
        exact ⟨hwindow, hinjection, nofun⟩ }
  settled _ _ := judged_reevaluated ..
  injection := by rw [injection_reevaluated]; exact id
  empty _ := fun ⟨hwindow, hclear⟩ => by
    rw [reevaluated_of_empty round hwindow hclear]
    exact ⟨hwindow, hclear⟩
  cleared _ h := by
    rw [reevaluated_of_empty round h.1 h.2.1]
    exact h

/-- A vote enters a voted condition that may take it (R110, R127). -/
theorem recordKept_afterVote (judged : Vote) (round : Round) (hvoted : voted = true) (hv : votable) :
    RecordKept voted r votable c (c.afterVote judged r round) where
  shape k :=
    { window_le := by
        rw [Cond.afterVote, window_reevaluated]
        exact List.length_take_le ..
      active_latched := active_latched_reevaluated round k.active_latched
      injection_range := fun n hn => by
        rw [Cond.afterVote, injection_reevaluated] at hn
        cases hc : c.injection with
        | none => simp [hc] at hn
        | some m =>
          obtain ⟨-, hm⟩ := k.injection_range m hc
          simp only [hc] at hn
          split at hn
          · cases hn; omega
          · cases hn
      unvoted := fun hu => absurd (hvoted.symm.trans hu) (by decide) }
  settled _ _ := judged_reevaluated ..
  injection h := by
    rw [Cond.afterVote, injection_reevaluated] at h
    cases hc : c.injection with
    | none => simp [hc] at h
    | some m => rfl
  empty hn := absurd hv hn
  cleared hn := absurd hv hn

/-- DEGRADED and CONFIG move without a vote (R119, R129). -/
theorem recordKept_move {new : CondState} (round : Round) (hvoted : voted = false) (hnew : new ≠ .pending)
    (hv : votable) : RecordKept voted r votable c (c.move new round) where
  shape k := ⟨k.window_le, fun ha => by simp [Cond.move, show new = .active from ha], k.injection_range,
    fun hu => ⟨(k.unvoted hu).1, (k.unvoted hu).2.1, hnew⟩⟩
  settled _ h := absurd (hvoted.symm.trans h) (by decide)
  injection := id
  empty hn := absurd hv hn
  cleared hn := absurd hv hn

end

/-! ## The records of a state -/

/-- A vote may be taken on a condition: its subject is not OFF, and HIGHZ and LOWZ take votes (R118, R125). -/
def Votable (s : State) (id : CondId) : Prop :=
  s.isOff id.subject = false ∧ ∀ l, id = .line l .highz ∨ id = .line l .lowz → s.refVotes l = true

/-- From `s` to `t` every record is kept under the rules of `s`, which `t` has too, and no more may be voted on. -/
structure RecordsKept (s t : State) : Prop where
  rule : ∀ id, t.ruleFor id = s.ruleFor id
  off : ∀ x, t.isOff x = s.isOff x
  votable : ∀ id, Votable t id → Votable s id
  record : ∀ id, RecordKept id.voted (s.ruleFor id) (Votable s id) (s.cond id) (t.cond id)

theorem RecordsKept.trans {s t u : State} (h : RecordsKept s t) (k : RecordsKept t u) : RecordsKept s u where
  rule id := (k.rule id).trans (h.rule id)
  off x := (k.off x).trans (h.off x)
  votable id := h.votable id ∘ k.votable id
  record id := (h.record id).trans (h.rule id ▸ (k.record id).weaken (h.votable id))

/-- `s` and `t` judge their conditions alike: the tables, the learning records and the device phase agree, but that the part
may have left STARTING. -/
structure SameGround (s t : State) : Prop where
  lines : t.cfg.lines = s.cfg.lines := by rfl
  amps : t.cfg.amps = s.cfg.amps := by rfl
  profiles : t.cfg.profiles = s.cfg.profiles := by rfl
  wideRule : t.cfg.wide.rule = s.cfg.wide.rule := by rfl
  learn : t.learn = s.learn := by rfl
  starting : t.boot.phase = .starting → s.boot.phase = .starting := by exact id

section
variable {s t u : State}

theorem SameGround.trans (h : SameGround s t) (k : SameGround t u) : SameGround s u :=
  ⟨k.lines.trans h.lines, k.amps.trans h.amps, k.profiles.trans h.profiles, k.wideRule.trans h.wideRule,
    k.learn.trans h.learn, h.starting ∘ k.starting⟩

theorem ground_of_judging (h : Judging s t) : SameGround s t :=
  ⟨by rw [h.cfg], by rw [h.cfg], by rw [h.cfg], by rw [h.cfg], h.learn, by rw [h.boot]; exact id⟩

theorem SameGround.line (h : SameGround s t) (l : LineId) : t.line l = s.line l := by simp only [State.line, h.lines]

theorem SameGround.refVotes (h : SameGround s t) (l : LineId) : t.refVotes l = s.refVotes l := by
  simp only [State.refVotes, h.line, h.learn]

end

/-- The rule of a condition looks at its line's profile field, the profiles and the amplifier-wide rule alone (R109). -/
theorem ruleFor_congr {s t : State} (hprofile : ∀ l, (t.line l).profile = (s.line l).profile)
    (hprofiles : t.cfg.profiles = s.cfg.profiles) (hwide : t.cfg.wide.rule = s.cfg.wide.rule) (id : CondId) :
    t.ruleFor id = s.ruleFor id := by
  have hline : ∀ l, t.lineProfile l = s.lineProfile l := fun l => by
    simp only [State.lineProfile, hprofile, hprofiles]
  cases id with
  | line l k => cases k <;> simp only [State.ruleFor, hline]
  | amp a k => exact hwide
  | dev k => rfl

theorem off_congr {s t : State} (hlines : ∀ l, (t.line l).state = (s.line l).state) (hamps : t.cfg.amps = s.cfg.amps)
    (x : Subject) : t.isOff x = s.isOff x := by
  cases x with
  | line l => rw [isOff_line, isOff_line, hlines]
  | amp a =>
    rw [isOff_amp, isOff_amp]
    exact congrArg (fun v : Vector AmpEntry 8 => decide (v[a].state = .off)) hamps
  | dev => rfl

section
variable {s t u : State}

theorem SameGround.off (h : SameGround s t) (x : Subject) : t.isOff x = s.isOff x :=
  off_congr (fun l => by rw [h.line]) h.amps x

theorem SameGround.rule (h : SameGround s t) (id : CondId) : t.ruleFor id = s.ruleFor id :=
  ruleFor_congr (fun l => by rw [h.line]) h.profiles h.wideRule id

theorem SameGround.votable (h : SameGround s t) (id : CondId) (hv : Votable t id) : Votable s id :=
  ⟨(h.off _).symm.trans hv.1, fun l hl => (h.refVotes l).symm.trans (hv.2 l hl)⟩

/-- Every record is kept from `s` to `t`, on the same ground. -/
structure Kept (s t : State) : Prop extends SameGround s t where
  record : ∀ id, RecordKept id.voted (s.ruleFor id) (Votable s id) (s.cond id) (t.cond id)

theorem Kept.records (h : Kept s t) : RecordsKept s t :=
  ⟨h.toSameGround.rule, h.toSameGround.off, h.toSameGround.votable, h.record⟩

theorem Kept.trans (h : Kept s t) (k : Kept t u) : Kept s u :=
  ⟨h.toSameGround.trans k.toSameGround, (h.records.trans k.records).record⟩

/-- An act that writes no condition record and no ground. -/
theorem Kept.of_conds (g : SameGround s t := by exact {}) (h : ∀ id, t.cond id = s.cond id := by exact fun _ => rfl) :
    Kept s t :=
  ⟨g, fun id => by rw [h]; exact .refl⟩

theorem Kept.refl (s : State) : Kept s s := .of_conds

theorem Kept.ite {c : Prop} [Decidable c] (h : Kept s t) (k : Kept s u) : Kept s (if c then t else u) := by
  split
  · exact h
  · exact k

theorem Kept.foldl {α : Type} {f : State → α → State} (h : ∀ u x, Kept u (f u x)) (xs : List α) (s : State) :
    Kept s (xs.foldl f s) := by
  induction xs generalizing s with
  | nil => exact .refl s
  | cons x xs ih => exact (h s x).trans (ih (f s x))

/-- An act of CEVAL that takes one record to `c`. -/
theorem Kept.of_turn {id : CondId} {c : Cond} (hj : Judging s t) (hc : ∀ j, t.cond j = if j = id then c else s.cond j)
    (hr : RecordKept id.voted (s.ruleFor id) (Votable s id) (s.cond id) c) : Kept s t := by
  refine ⟨ground_of_judging hj, fun j => ?_⟩
  rw [hc]
  split
  · next hj => subst hj; exact hr
  · exact .refl

end

end Sys2Proof.Machine.Judge
end

section
/-! SUPPORT. The acts of CEVAL on a state: each keeps every record, what is re-evaluated is settled, what is emptied is empty
and what is set OFF is cleared. -/

namespace Sys2Proof.Machine.Judge

open Converter Scan

/-! ## Writing one record after another -/

/-- Acts that each write one record, by a function that does nothing the second time, write the records listed. -/
theorem cond_foldl {act : State → CondId → State} {f : State → Cond → Cond} (hidem : ∀ u c, f u (f u c) = f u c)
    (hf : ∀ u id, f (act u id) = f u)
    (hact : ∀ u id j, (act u id).cond j = if j = id then f u (u.cond id) else u.cond j) (ids : List CondId) (s : State)
    (j : CondId) : (ids.foldl act s).cond j = if j ∈ ids then f s (s.cond j) else s.cond j := by
  induction ids generalizing s with
  | nil => simp
  | cons id ids ih =>
    rw [List.foldl_cons, ih, hact, hf]
    by_cases hj : j = id
    · subst hj
      simp [hidem]
    · simp [hj]

theorem turnedOff_turnedOff (c : Cond) (round : Round) : (c.turnedOff round).turnedOff round = c.turnedOff round := by
  simp [Cond.turnedOff]

theorem cond_turnOffConds (s : State) (x : Subject) (id : CondId) :
    (s.turnOffConds x).cond id = if id.subject = x then (s.cond id).turnedOff s.seq.round else s.cond id := by
  have h := cond_foldl (act := fun s id => s.setCond id ((s.cond id).turnedOff s.seq.round))
    (f := fun s c => c.turnedOff s.seq.round) (fun u c => turnedOff_turnedOff c _) (fun _ _ => rfl)
    (fun u id j => u.cond_setCond id j _) (condsOf x) s id
  simp only [mem_condsOf] at h
  exact h

theorem cond_dropInjections (s : State) (x : Subject) (id : CondId) :
    (s.dropInjections x).cond id = if id.subject = x then { s.cond id with injection := none } else s.cond id := by
  have h := cond_foldl (act := fun s id => s.setCond id { s.cond id with injection := none })
    (f := fun _ c => { c with injection := none }) (fun _ _ => rfl) (fun _ _ => rfl)
    (fun u id j => u.cond_setCond id j _) (condsOf x) s id
  simp only [mem_condsOf] at h
  exact h

/-- The latch of a condition goes unless it is ACTIVE (R122). -/
def unlatched (c : Cond) : Cond := if c.state ≠ .active then { c with latch := false } else c

theorem cond_clearLatch (s : State) (id j : CondId) :
    (s.clearLatch id).cond j = if j = id then unlatched (s.cond id) else s.cond j := by
  unfold State.clearLatch unlatched
  by_cases ha : (s.cond id).state = .active
  · by_cases hj : j = id
    · subst hj; simp [ha]
    · simp [ha, hj]
  · simp [ha, State.cond_setCond]

theorem cond_clearLatches (s : State) (ids : List CondId) (id : CondId) :
    (ids.foldl State.clearLatch s).cond id = if id ∈ ids then unlatched (s.cond id) else s.cond id := by
  refine cond_foldl (f := fun _ => unlatched) (fun _ c => ?_) (fun _ _ => rfl) cond_clearLatch ids s id
  unfold unlatched
  by_cases ha : c.state = .active <;> simp [ha]

theorem recordKept_latch {voted : Bool} {r : VoteRule} {votable : Prop} (c : Cond) :
    RecordKept voted r votable c (unlatched c) := by
  unfold unlatched
  split
  · next h => exact recordKept_unlatched h
  · exact .refl

section
variable (s : State)

theorem kept_turnOffConds (x : Subject) : Kept s (s.turnOffConds x) := by
  refine ⟨ground_of_judging (judging_turnOffConds s x), fun id => ?_⟩
  rw [cond_turnOffConds]
  split
  · exact recordKept_turnedOff _
  · exact .refl

theorem kept_clearLatches (ids : List CondId) : Kept s (ids.foldl State.clearLatch s) := by
  refine ⟨ground_of_judging (judging_clearLatches s ids), fun id => ?_⟩
  rw [cond_clearLatches]
  split
  · exact recordKept_latch _
  · exact .refl

/-! ## Moves, emptyings and evaluations (R97, R102, R111, R118) -/

theorem kept_notify (x : Subject) (k : NoticeKind) (ev : Event) (cause : Option Cause) (value : Option Nat)
    (test : Bool) : Kept s (s.notify x k ev cause value test) := .of_conds

theorem kept_reevalOutputs : Kept s s.reevalOutputs := .of_conds

theorem kept_setFirstCount (a : AmpId) (mark : Bool) : Kept s (s.setFirstCount a mark) := .of_conds

theorem cond_emptyCond (id j : CondId) (cause : Option Cause) :
    (s.emptyCond id cause).cond j = if j = id then (s.cond id).emptied s.seq.round else s.cond j := by
  rw [emptyCond_eq]
  exact cond_turnTo s id j _

theorem kept_emptyCond (id : CondId) (cause : Option Cause) : Kept s (s.emptyCond id cause) :=
  .of_turn (judging_emptyCond ..) (fun j => cond_emptyCond s id j cause) (recordKept_emptied _)

theorem kept_attributeLine (l : LineId) : Kept s (s.attributeLine l) := .ite (.refl s) (kept_emptyCond ..)

theorem kept_attributeFed (a : AmpId) : Kept s (s.attributeFed a) :=
  .foldl (fun u l => .ite (kept_attributeLine u l) (.refl u)) _ _

theorem kept_afterMove (id : CondId) (old new : CondState) : Kept s (s.afterMove id old new) := by
  by_cases h : ∃ a, id = .amp a .nopilot
  · obtain ⟨a, rfl⟩ := h
    exact .ite (kept_attributeFed s a) (.ite (kept_setFirstCount s a true) (.refl s))
  · rw [afterMove_other (fun a ha => h ⟨a, ha⟩)]
    exact .refl s

/-- DEGRADED or CONFIG moved by its own rule (R119, R129). -/
theorem kept_moveCond {id : CondId} {new : CondState} (cause : Option Cause) (value : Option Nat) (test : Bool)
    (hvoted : id.voted = false) (hnew : new ≠ .pending) (hv : Votable s id) :
    Kept s (s.moveCond id new cause value test) := by
  refine ⟨ground_of_judging (judging_moveCond ..), fun j => ?_⟩
  rw [State.cond_moveCond]
  split
  · next hj =>
    rw [hj.1]
    exact recordKept_move _ hvoted hnew hv
  · exact .refl

/-- A move to what the window gives is a re-evaluation of the record. -/
theorem cond_moveCond_judged (id j : CondId) (cause : Option Cause) (value : Option Nat) (test : Bool) :
    (s.moveCond id ((s.cond id).judged (s.ruleFor id)) cause value test).cond j
      = if j = id then (s.cond id).reevaluated (s.ruleFor id) s.seq.round else s.cond j := by
  rw [State.cond_moveCond, reevaluated_eq]
  by_cases hj : j = id
  · subst hj
    by_cases hs : (s.cond j).state = (s.cond j).judged (s.ruleFor j)
    · rw [if_neg (fun h => h.2 hs), if_pos rfl, if_pos hs]
    · rw [if_pos ⟨rfl, hs⟩, if_pos rfl, if_neg hs]
  · rw [if_neg (fun h => hj h.1), if_neg hj]

theorem kept_moveCond_judged (id : CondId) (cause : Option Cause) (value : Option Nat) (test : Bool) :
    Kept s (s.moveCond id ((s.cond id).judged (s.ruleFor id)) cause value test) :=
  .of_turn (judging_moveCond ..) (fun j => cond_moveCond_judged s id j cause value test) (recordKept_reevaluated _)

theorem kept_evaluate (id : CondId) (value : Option Nat) (test : Bool) : Kept s (s.evaluate id value test) :=
  (kept_moveCond_judged s id none value test).trans (kept_afterMove ..)

theorem kept_push (x : Subject) : Kept s (s.push x) := by
  rw [s.push_spec x]
  exact .of_conds

/-- A vote on a voted condition that may take it (R110, R127). -/
theorem kept_vote {id : CondId} (judged : Vote) (value : Option Nat) (hvoted : id.voted = true) (hv : Votable s id) :
    Kept s (s.vote id judged value) := by
  have hturn : Kept s { turnTo s id (s.voted id judged) with
      nq := s.nq.placeAll (s.moveNotice id (s.cond id) (s.voted id judged).state none value) } :=
    .of_turn ((judging_turnTo ..).trans ⟨rfl⟩) (fun j => cond_turnTo s id j _) (recordKept_afterVote judged _ hvoted hv)
  rw [vote_eq]
  exact hturn.trans ((kept_afterMove ..).trans (.ite (kept_push ..) (.refl _)))

/-! ## Re-evaluation without a vote (R104, R117) -/

/-- A DEAD that would leave CLEAR under an ACTIVE NOPILOT has its window emptied, and every other condition is evaluated
(R104). -/
theorem reevaluate_cases (id : CondId) :
    (s.reevaluate id = s.setCond id { s.cond id with window := [] } ∧ (s.cond id).state = .clear)
      ∨ s.reevaluate id = s.evaluate id none (s.cond id).injection.isSome := by
  unfold State.reevaluate
  split
  · dsimp only
    split
    · next h => exact .inl ⟨rfl, h.2.1⟩
    · exact .inr rfl
  · exact .inr rfl

theorem kept_reevaluate (id : CondId) : Kept s (s.reevaluate id) := by
  obtain ⟨heq, hclear⟩ | heq := reevaluate_cases s id
  · have hemptied : ({ s.cond id with window := [] } : Cond) = (s.cond id).emptied s.seq.round := by
      rw [emptied_eq, if_pos hclear]
    rw [heq]
    exact .of_turn (judging_setCond ..) (fun j => s.cond_setCond id j _) (hemptied ▸ recordKept_emptied _)
  · rw [heq]
    exact kept_evaluate ..

theorem kept_reevaluateAll (ids : List CondId) : Kept s (s.reevaluateAll ids) :=
  .foldl (fun u id => .ite (.refl u) (kept_reevaluate u id)) _ _

end

/-- A condition's state is what its window gives it under the rule in force (R111, R117). -/
def Settled (s : State) (id : CondId) : Prop := id.voted = true → (s.cond id).judged (s.ruleFor id) = (s.cond id).state

theorem RecordsKept.settled {s t : State} (h : RecordsKept s t) {id : CondId} (hs : Settled s id) : Settled t id := by
  rw [Settled, h.rule]
  exact (h.record id).settled hs

/-- What follows a move leaves a condition settled. -/
theorem settled_reevaluate (s : State) (id : CondId) : Settled (s.reevaluate id) id := by
  obtain ⟨heq, hclear⟩ | heq := reevaluate_cases s id
  · rw [heq, Settled, cond_setCond_same]
    exact fun _ => (judged_of_empty rfl).trans hclear.symm
  · have hmoved := kept_moveCond_judged s id none none (s.cond id).injection.isSome
    rw [heq]
    refine RecordsKept.settled (kept_afterMove _ id _ _).records fun _ => ?_
    rw [hmoved.records.rule, cond_moveCond_judged, if_pos rfl]
    exact judged_reevaluated ..

/-- Every condition re-evaluated is settled afterwards, unless its subject is OFF. -/
theorem settled_reevaluateAll {ids : List CondId} {id : CondId} {s : State} (hid : id ∈ ids)
    (hon : s.isOff id.subject = false) : Settled (s.reevaluateAll ids) id := by
  induction ids generalizing s with
  | nil => cases hid
  | cons i ids ih =>
    have hstep : Kept s (if s.isOff i.subject then s else s.reevaluate i) := .ite (.refl s) (kept_reevaluate s i)
    change Settled (State.reevaluateAll (if s.isOff i.subject then s else s.reevaluate i) ids) id
    obtain rfl | hid := List.mem_cons.mp hid
    · refine (kept_reevaluateAll _ ids).records.settled ?_
      rw [if_neg (by rw [hon]; exact Bool.false_ne_true)]
      exact settled_reevaluate s id
    · exact ih hid ((hstep.records.off _).trans hon)

/-! ## HIGHZ and LOWZ (R7, R118) -/

section
variable (s : State) (l : LineId)

theorem kept_emptyRef : Kept s (s.emptyRef l) := (kept_emptyCond ..).trans (kept_emptyCond ..)

theorem cond_emptyRef (id : CondId) :
    (s.emptyRef l).cond id
      = if id = .line l .highz ∨ id = .line l .lowz then (s.cond id).emptied s.seq.round else s.cond id := by
  rw [State.emptyRef, cond_emptyCond, cond_emptyCond, cond_emptyCond, seq_emptyCond]
  by_cases hl : id = .line l .lowz
  · subst hl; simp
  · by_cases hh : id = .line l .highz
    · subst hh; simp
    · simp [hl, hh]

theorem refEmpty_emptyRef : RefEmpty (s.emptyRef l) l := by
  rintro k hk
  have hid : CondId.line l k = .line l .highz ∨ CondId.line l k = .line l .lowz := by
    simpa only [CondId.line.injEq, true_and] using hk
  rw [cond_emptyRef, if_pos hid]
  exact ⟨rfl, rfl⟩

end

theorem RecordsKept.refEmpty {s t : State} (k : RecordsKept s t) {l : LineId} (hgate : s.refVotes l = false)
    (h : RefEmpty s l) : RefEmpty t l := by
  intro j hj
  refine (k.record (.line l j)).empty (fun hv => ?_) (h j hj)
  have hvotes := hv.2 l (by simpa only [CondId.line.injEq, true_and] using hj)
  exact absurd (hgate.symm.trans hvotes) (by decide)

/-! ## Announcements (R16, R123, R124) -/

section
variable (s : State)

theorem kept_announceActive (x : Subject) : Kept s (s.announceActive x) :=
  .foldl (fun u _ => .ite (kept_notify ..) (.refl u)) _ _

theorem kept_announceEntries (before : State) : Kept s (s.announceEntries before) :=
  .foldl (fun u x => .ite (kept_announceActive u x) (.refl u)) _ _

theorem kept_reactZref (l : LineId) (written : Option (Option Nat)) (old : Option Nat) :
    Kept s (s.reactZref l written old) := by
  unfold State.reactZref
  split
  · exact .refl s
  · exact kept_emptyRef s l
  · exact .ite (.refl s) (kept_emptyRef s l)

end

end Sys2Proof.Machine.Judge
end

section
/-! SUPPORT. The two invariants of the condition records through acts that keep the records, through tables written anew, and
through LEARN, the completions of LCONV and the tests of EBRG. -/

namespace Sys2Proof.Machine.Judge

open Converter Scan

/-! ## The two invariants together -/

/-- Both invariants of the condition records pass from `s` to `t`. -/
structure Upholds (s t : State) : Prop where
  judged : Judged s → Judged t
  gated : ReferenceGated s → ReferenceGated t

section
variable {s s0 t u v : State}

theorem Upholds.refl (s : State) : Upholds s s := ⟨id, id⟩

theorem Upholds.trans (h : Upholds s t) (k : Upholds t u) : Upholds s u := ⟨k.judged ∘ h.judged, k.gated ∘ h.gated⟩

theorem not_votable_of_off {id : CondId} (h : s.isOff id.subject = true) : ¬Votable s id := fun hv =>
  absurd (h.symm.trans hv.1) (by decide)

/-- Tables written from `s` to `s0`, then acts that keep the records: the records agree with the new tables where every
subject newly OFF has been cleared and every condition under a new rule has been settled. -/
theorem judged_of_rewritten (h : Judged s) (hcond : ∀ id, s0.cond id = s.cond id) (k : RecordsKept s0 v)
    (hoff : ∀ id, s0.isOff id.subject = true → s.isOff id.subject = true ∨ (v.cond id).isCleared)
    (hrule : ∀ id, id.voted = true → s0.isOff id.subject = false → s0.ruleFor id = s.ruleFor id ∨ Settled v id) :
    Judged v := by
  have hcleared : ∀ id, s0.isOff id.subject = true → (v.cond id).isCleared := fun id hid => by
    obtain hs | hv := hoff id hid
    · exact (k.record id).cleared (not_votable_of_off hid) (by rw [hcond]; exact h.off_cleared id hs)
    · exact hv
  have hinjection : ∀ id, (v.cond id).injection.isSome = true → (s.cond id).injection.isSome = true := fun id hid =>
    hcond id ▸ (k.record id).injection hid
  exact
    { shape := fun id => (k.record id).shape (by rw [hcond]; exact h.shape id)
      settled := fun id hvoted => by
        by_cases hid : s0.isOff id.subject = true
        · obtain ⟨hwindow, hclear, -, -⟩ := hcleared id hid
          exact (judged_of_empty hwindow).trans hclear.symm
        · obtain hsame | hv := hrule id hvoted (by simpa using hid)
          · refine k.settled (fun hvoted => ?_) hvoted
            rw [hcond, hsame]
            exact h.settled id hvoted
          · exact hv hvoted
      off_cleared := fun id hid => hcleared id ((k.off _).symm.trans hid)
      one_injection := fun a b hab ha hb => h.one_injection a b hab (hinjection a ha) (hinjection b hb) }

/-- References and learning records written from `s` to `s0`, then acts that keep the records: HIGHZ and LOWZ hold nothing
without a reference where they held nothing before, or have been emptied. -/
theorem gated_of_rewritten (h : ReferenceGated s) (hcond : ∀ id, s0.cond id = s.cond id) (k : RecordsKept s0 v)
    (hvotes : ∀ l, v.refVotes l = false → RefEmpty v l ∨ s.refVotes l = false ∧ s0.refVotes l = false)
    (hlearn : ∀ l : LineId, v.learn[l].isSome = true → (v.line l).state ≠ .off)
    (hstarting : v.boot.phase = .starting → ∀ l : LineId, v.learn[l] = none) : ReferenceGated v where
  empty l hl := by
    obtain hempty | ⟨hs, hs0⟩ := hvotes l hl
    · exact hempty
    · exact k.refEmpty hs0 fun j hj => by rw [hcond]; exact h.empty l hs j hj
  learning_not_off := hlearn
  starting_none := hstarting

theorem Kept.upholds (k : Kept s t) : Upholds s t where
  judged h := judged_of_rewritten h (fun _ => rfl) k.records (fun _ => .inl) fun _ _ _ => .inl rfl
  gated h := gated_of_rewritten h (fun _ => rfl) k.records
    (fun l hl => .inr ⟨(k.refVotes l).symm.trans hl, (k.refVotes l).symm.trans hl⟩)
    (fun l hl => by
      rw [k.line]
      exact h.learning_not_off l (k.learn ▸ hl))
    fun hp l => by
      rw [k.learn]
      exact h.starting_none (k.starting hp) l

/-- Learning records written where there were some, or removed. -/
theorem upholds_withLearn (s : State) (learn : Vector (Option LearnRec) 24)
    (h : ∀ l : LineId, learn[l].isSome = true → s.learn[l].isSome = true) : Upholds s { s with learn := learn } where
  judged hs := ⟨hs.shape, hs.settled, hs.off_cleared, hs.one_injection⟩
  gated hs :=
    { empty := fun l hl => by
        refine hs.empty l ?_
        change ((s.line l).zref.isSome && learn[l].isNone) = false at hl
        change ((s.line l).zref.isSome && s.learn[l].isNone) = false
        rw [Bool.and_eq_false_iff, Option.isNone_eq_false_iff] at hl ⊢
        exact hl.imp id (h l)
      learning_not_off := fun l hl => hs.learning_not_off l (h l hl)
      starting_none := fun hp l => by
        have hnone := hs.starting_none hp l
        have hrec := h l
        change learn[l] = none
        rw [hnone] at hrec
        exact Option.not_isSome_iff_eq_none.mp (mt hrec (by decide)) }

theorem getElem_setLearn (s : State) (l j : LineId) (r : Option LearnRec) :
    (s.setLearn l r).learn[j] = if j = l then r else s.learn[j] := by
  by_cases h : j = l
  · subst h; simp [State.setLearn]
  · simp [State.setLearn, h, Fin.val_ne_of_ne (Ne.symm h)]

theorem upholds_setLearn {l : LineId} {r : Option LearnRec} (h : r.isSome = true → s.learn[l].isSome = true) :
    Upholds s (s.setLearn l r) :=
  upholds_withLearn s _ fun j hj => by
    have hget := getElem_setLearn s l j r
    change (s.learn.set l r)[j] = _ at hget
    rw [hget] at hj
    by_cases hjl : j = l
    · subst hjl
      exact h (by simpa using hj)
    · simpa [hjl] using hj

/-! ## LEARN (R118, R131 to R139) -/

/-- A line's reference or learning record written, then HIGHZ and LOWZ emptied (R118, R132, R137). -/
theorem upholds_emptyRef {l : LineId} (hcond : ∀ id, s0.cond id = s.cond id) (hrule : ∀ id, s0.ruleFor id = s.ruleFor id)
    (hoff : ∀ x, s0.isOff x = s.isOff x) (hvotes : ∀ j, j ≠ l → s0.refVotes j = s.refVotes j)
    (hlearn : ReferenceGated s → ∀ j : LineId, s0.learn[j].isSome = true → (s0.line j).state ≠ .off)
    (hstarting : ReferenceGated s → s0.boot.phase = .starting → ∀ j : LineId, s0.learn[j] = none) :
    Upholds s (s0.emptyRef l) := by
  have hk := kept_emptyRef s0 l
  refine ⟨fun h => ?_, fun h => ?_⟩
  · exact judged_of_rewritten h hcond hk.records (fun id hid => .inl (hoff _ ▸ hid)) fun id _ _ => .inl (hrule id)
  · refine gated_of_rewritten h hcond hk.records (fun j hj => ?_) (fun j hj => ?_) fun hp j => ?_
    · by_cases hjl : j = l
      · subst hjl
        exact .inl (refEmpty_emptyRef s0 j)
      · rw [hk.refVotes] at hj
        exact .inr ⟨(hvotes j hjl).symm.trans hj, hj⟩
    · rw [hk.line]
      exact hlearn h j (hk.learn ▸ hj)
    · rw [hk.learn]
      exact hstarting h (hk.starting hp) j

theorem upholds_failLearning (s : State) (l : LineId) (cause : Cause) : Upholds s (s.failLearning l cause) :=
  (upholds_setLearn (r := none) nofun).trans (kept_notify ..).upholds

theorem upholds_learnWaits {l : LineId} (h : s.learn[l].isSome = true) (r : LearnRec) : Upholds s (s.learnWaits l r) := by
  unfold State.learnWaits
  split
  · exact upholds_failLearning ..
  · exact upholds_setLearn fun _ => h

theorem line_setZref (s : State) (l j : LineId) (z : Option Nat) :
    (s.setZref l z).line j = if j = l then { s.line l with zref := z } else s.line j :=
  line_setLineEntry s l j { s.cfg.lines[l] with zref := z }

theorem upholds_completeLearning (s : State) (l : LineId) (r : LearnRec) : Upholds s (s.completeLearning l r) := by
  unfold State.completeLearning
  split
  · have hline := line_setZref s l
    have hempty : ∀ z, Upholds s ((s.setZref l z).emptyRef l) := fun z => by
      have hstate : ∀ j, ((s.setZref l z).line j).state = (s.line j).state := fun j => by
        rw [hline]
        split
        · next hj => subst hj; rfl
        · rfl
      have hprofile : ∀ j, ((s.setZref l z).line j).profile = (s.line j).profile := fun j => by
        rw [hline]
        split
        · next hj => subst hj; rfl
        · rfl
      refine upholds_emptyRef (fun _ => rfl) (ruleFor_congr hprofile rfl rfl) (off_congr hstate rfl) (fun j hj => ?_)
        (fun h j hj => ?_) fun h hp => h.starting_none hp
      · simp only [State.refVotes, hline, if_neg hj]
        rfl
      · rw [hstate]
        exact h.learning_not_off j hj
    exact (hempty _).trans ((upholds_setLearn (r := none) nofun).trans (kept_notify ..).upholds)
  · exact upholds_failLearning ..

theorem upholds_handLearn (s : State) (l : LineId) (res : LineResult) : Upholds s (s.handLearn l res) := by
  unfold State.handLearn
  split
  · exact .refl s
  · next r hr =>
    have hsome : s.learn[l].isSome = true := by rw [hr]; rfl
    dsimp only
    split
    · exact upholds_failLearning ..
    · exact upholds_failLearning ..
    · exact upholds_failLearning ..
    · split
      · exact upholds_completeLearning ..
      · exact upholds_learnWaits hsome _
    · exact upholds_learnWaits hsome _

/-! ## Completions of LCONV (R27, R114, R119) -/

theorem SameGround.votable_of {s t : State} (g : SameGround s t) {id : CondId} (hv : Votable s id) : Votable t id :=
  ⟨(g.off _).trans hv.1, fun l hl => (g.refVotes l).trans (hv.2 l hl)⟩

/-- A condition other than HIGHZ and LOWZ may take a vote where its subject is not OFF. -/
theorem votable_of_on {id : CondId} (hon : s.isOff id.subject = false)
    (hid : ∀ l, id ≠ .line l .highz ∧ id ≠ .line l .lowz) : Votable s id :=
  ⟨hon, fun l hl => absurd hl (not_or.mpr (hid l))⟩

theorem kept_releaseLconv (s : State) : Kept s s.releaseLconv := .of_conds

theorem kept_enterMinMax (s : State) (l : LineId) (r : LineResult) : Kept s (s.enterMinMax l r) := by
  unfold State.enterMinMax
  split
  · exact .ite .of_conds (.refl s)
  · exact .refl s

theorem voted_of_impedance {l : LineId} {k : LineKind} (h : k ∈ impedanceKinds) : (CondId.line l k).voted = true := by
  cases k with
  | degraded => contradiction
  | _ => rfl

/-- HIGHZ and LOWZ are among the conditions that a line result votes on only with a reference and no learning (R118). -/
theorem votable_of_votingKinds {l : LineId} {k : LineKind} (hon : s.isOff (.line l) = false) (hk : k ∈ s.votingKinds l) :
    (CondId.line l k).voted = true ∧ Votable s (.line l k) := by
  obtain ⟨hmem, hvotes⟩ := List.mem_filter.mp hk
  refine ⟨voted_of_impedance hmem, hon, fun j hj => ?_⟩
  simp only [CondId.line.injEq] at hj
  obtain ⟨rfl, rfl⟩ | ⟨rfl, rfl⟩ := hj <;> simpa using hvotes

theorem kept_voteLine {l : LineId} (hon : s.isOff (.line l) = false) (r : LineResult) : Kept s (s.voteLine l r) := by
  have hvotes : ∀ (cls : LineClass) (ks : List LineKind) (u : State),
      (∀ k ∈ ks, (CondId.line l k).voted = true ∧ Votable u (.line l k)) →
      Kept u (ks.foldl (fun u k => u.vote (.line l k) (lineVote cls k) r.z) u) := by
    intro cls ks
    induction ks with
    | nil => exact fun u _ => .refl u
    | cons k ks ih =>
      intro u hu
      obtain ⟨hvoted, hv⟩ := hu k List.mem_cons_self
      have hstep := kept_vote u (lineVote cls k) r.z hvoted hv
      exact hstep.trans (ih _ fun j hj =>
        ⟨(hu j (List.mem_cons_of_mem k hj)).1, hstep.votable_of (hu j (List.mem_cons_of_mem k hj)).2⟩)
  unfold State.voteLine
  split
  · exact hvotes _ _ s fun k hk => votable_of_votingKinds hon hk
  · exact .refl s

theorem kept_moveDegraded {l : LineId} (hon : s.isOff (.line l) = false) (status : MeasStatus) :
    Kept s (s.moveDegraded l status) := by
  have hv : Votable s (.line l .degraded) := votable_of_on hon fun _ => ⟨nofun, nofun⟩
  have hset : Kept s { s with recs := { s.recs with
      maskedRun := s.recs.maskedRun.set l (maskedRunAfter s.recs.maskedRun[l] status) } } := .of_conds
  exact hset.trans (.ite (kept_moveCond _ none none false rfl nofun hv)
    (.ite (kept_moveCond _ none none false rfl nofun hv) (.refl _)))

theorem upholds_completeLine {l : LineId} (hon : s.isOff (.line l) = false) (m : Meas) :
    Upholds s (s.completeLine l m) := by
  have hset : ∀ r, Kept s ((s.setLineRes l r).enterMinMax l r) := fun r =>
    Kept.trans (t := s.setLineRes l r) .of_conds (kept_enterMinMax ..)
  have hvotes : ∀ (u : State) r, u.isOff (.line l) = false → Kept u ((u.voteLine l r).moveDegraded l r.status) :=
    fun u r hu => (kept_voteLine hu r).trans (kept_moveDegraded (((kept_voteLine hu r).off _).trans hu) _)
  exact ((hset _).trans (hvotes _ _ (((hset _).off _).trans hon))).upholds.trans
    ((upholds_handLearn ..).trans (kept_releaseLconv _).upholds)

theorem kept_voteAmp {a : AmpId} (hon : s.isOff (.amp a) = false) (k : AmpKind) (judged : Vote) (value : Option Nat) :
    Kept s (s.voteAmp a k judged value) := by
  have hmark : ∀ forced, Kept s (s.markAmp a forced) := fun _ => .ite .of_conds (.refl s)
  exact (hmark _).trans (kept_vote _ judged value rfl
    (votable_of_on (id := .amp a k) (((hmark _).off _).trans hon) fun _ => ⟨nofun, nofun⟩))

theorem kept_voteAmps {a : AmpId} (hon : s.isOff (.amp a) = false) (j k : AmpKind) (judged judged' : Vote) :
    Kept s ((s.voteAmp a j judged none).voteAmp a k judged' none) :=
  (kept_voteAmp hon ..).trans (kept_voteAmp (((kept_voteAmp hon ..).off _).trans hon) ..)

theorem kept_votePilot {a : AmpId} (hon : s.isOff (.amp a) = false) (r : AmpResult) : Kept s (s.votePilot a r) := by
  unfold State.votePilot
  split
  · exact kept_voteAmps hon ..
  · exact .refl s

theorem kept_voteFreq {a : AmpId} (hon : s.isOff (.amp a) = false) (r : AmpResult) : Kept s (s.voteFreq a r) := by
  unfold State.voteFreq
  split
  · exact .refl s
  · exact .ite (.refl s) (.ite (kept_setFirstCount ..) (kept_voteAmp hon ..))

theorem kept_completeAmp {a : AmpId} (hon : s.isOff (.amp a) = false) (m : Meas) (th su : Bool) :
    Kept s (s.completeAmp a m th su) := by
  have hset : Kept s (s.setAmpRes a (s.ampRecord a m th su)) := .of_conds
  have hpilot := hset.trans (kept_votePilot ((hset.off _).trans hon) (s.ampRecord a m th su))
  have hfreq := hpilot.trans (kept_voteFreq ((hpilot.off _).trans hon) (s.ampRecord a m th su))
  exact (hfreq.trans (kept_voteAmps ((hfreq.off _).trans hon) ..)).trans (kept_releaseLconv _)

/-- A vote on REF or BRIDGE of DEV, which is never OFF. -/
theorem kept_voteDev (s : State) {k : DevKind} (hk : (CondId.dev k).voted = true) (judged : Vote) (value : Option Nat) :
    Kept s (s.vote (.dev k) judged value) :=
  kept_vote s judged value hk (votable_of_on rfl fun _ => ⟨nofun, nofun⟩)

theorem kept_completeRef (s : State) (m : Meas) : Kept s (s.completeRef m) := by
  have hset : Kept s { s with recs := { s.recs with refRes := s.refRecord m } } := .of_conds
  exact (hset.trans (kept_voteDev _ rfl ..)).trans (kept_releaseLconv _)

/-- The completion of a measurement upholds the invariants, for LCONV measures no subject that is OFF (R33). -/
theorem upholds_complete (m : Meas) (th su : Bool) (hline : ∀ l, m.subject = .line l → s.isOff (.line l) = false)
    (hamp : ∀ a, m.subject = .amp a → s.isOff (.amp a) = false) : Upholds s (s.complete m th su) := by
  unfold State.complete
  split
  · next l hl => exact upholds_completeLine (hline l hl) m
  · next a ha => exact (kept_completeAmp (hamp a ha) m th su).upholds
  · exact (kept_completeRef s m).upholds

/-! ## Free reports, choices and the tests of EBRG (R69, R80 to R85) -/

theorem kept_of_report (h : ReportFrame s t) : Kept s t :=
  .of_conds ⟨by rw [h.cfg], by rw [h.cfg], by rw [h.cfg], by rw [h.cfg], h.learn, by rw [h.boot]; exact id⟩
    fun id => by simp only [State.cond, h.recs]

theorem kept_withEbrg (h : t = { s with ebrg := t.ebrg }) : Kept s t := by
  rw [h]
  exact .of_conds

theorem kept_choose (s : State) : Kept s s.choose := kept_withEbrg (choose_frame s)

theorem kept_startRound (s : State) : Kept s s.startRound := .of_conds

theorem upholds_endSampleBlock {m0 : Meas} (hs : Scheduled s) (hm : s.lconv = some m0) (m : Meas)
    (hsub : m.subject = m0.subject) (th su : Bool) (order : RaceOrder) : Upholds s (s.endSampleBlock m th su order) := by
  unfold State.endSampleBlock
  split
  · refine (upholds_complete m th su (fun l hl => ?_) fun a ha => ?_).trans
      (kept_of_report (freeReport_frame _ order)).upholds
    · rw [isOff_line, decide_eq_false_iff_not]
      exact hs.line_not_off l ((lineInFlight_of_some hm l).mpr (hsub.symm.trans hl))
    · rw [isOff_amp, decide_eq_false_iff_not]
      exact hs.amp_not_off a ((measuring_of_some hm _).mpr (hsub.symm.trans ha))
  · exact Kept.upholds .of_conds

theorem kept_endSoak (s : State) (t : EarthTest) (bias : Nat) : Kept s (s.endSoak t bias) := by
  have hset : Kept s { s with ebrg := { s.ebrg with lastBias := some bias } } := .of_conds
  unfold State.endSoak
  refine hset.trans (.ite ((kept_voteDev _ rfl ..).trans .of_conds) ?_)
  refine Kept.trans (t := ({ s with ebrg := { s.ebrg with lastBias := some bias } } : State).setMode .idle) .of_conds ?_
  exact Kept.trans (.of_conds) ((kept_voteDev _ rfl ..).trans (kept_choose _))

theorem kept_voteEarth {l : LineId} (hon : s.isOff (.line l) = false) (res : EarthResult) :
    Kept s (s.voteEarth l res) := by
  unfold State.voteEarth
  split
  · have hset : ∀ c : Bool, ∀ r, Kept s (if c then s.setEarthRes l r else s) := fun _ _ => .ite .of_conds (.refl s)
    exact (hset _ _).trans (kept_vote _ _ _ rfl
      (votable_of_on (id := .line l .earth) (((hset _ _).off _).trans hon) fun _ => ⟨nofun, nofun⟩))
  · exact .refl s

/-- The end of a leakage block keeps the records, for EBRG tests no line that is OFF (R89). -/
theorem kept_endLeakageBlock {t0 : EarthTest} (hs : Scheduled s) (hm : s.ebrg.mode = .measuring t0) (t : EarthTest)
    (hl : t.line = t0.line) : Kept s (s.endLeakageBlock t) := by
  have hon : s.isOff (.line t.line) = false := by
    rw [isOff_line, decide_eq_false_iff_not]
    exact hs.chosen_not_off _ (by rw [hm, hl]; rfl)
  have hset : Kept s (s.setEarthRes t.line (s.earthRecord t)) := .of_conds
  have hidle : ∀ u : State, Kept u (u.setMode .idle).choose := fun u =>
    Kept.trans (t := u.setMode .idle) .of_conds (kept_choose _)
  unfold State.endLeakageBlock
  exact .ite ((hset.trans (kept_voteEarth ((hset.off _).trans hon) _)).trans (hidle _)) .of_conds

end

end Sys2Proof.Machine.Judge
end

section
/-! SUPPORT. The two invariants of the condition records through the setting requests (R2). -/

namespace Sys2Proof.Machine.Judge

open Converter Scan

/-! ## SET-LINE (R4 to R7, R117, R118, R125) -/

section
variable {s t : State}

/-- The learning record of a line that is OFF moves no record of a condition that may be voted on. -/
theorem recordsKept_setLearn {l : LineId} (hoff : s.isOff (.line l) = true) (r : Option LearnRec) :
    RecordsKept s (s.setLearn l r) where
  rule _ := rfl
  off _ := rfl
  votable id hv := ⟨hv.1, fun j hj => by
    have hjl : j ≠ l := fun h => by
      subst h
      have hsub : id.subject = .line j := by obtain rfl | rfl := hj <;> rfl
      exact absurd ((hsub ▸ hv.1).symm.trans hoff) (by decide)
    have hvotes := hv.2 j hj
    rw [State.refVotes, getElem_setLearn, if_neg hjl] at hvotes
    exact hvotes⟩
  record _ := .refl

theorem kept_dropNotices (s : State) (x : Subject) : Kept s (s.dropNotices x) := .of_conds

theorem kept_dropConfirm (s : State) (e : RingEntry) : Kept s (s.dropConfirm e) := .of_conds

theorem kept_zeroMaskedRun (s : State) (l : LineId) : Kept s (s.zeroMaskedRun l) := .of_conds

/-- The OFF effects on a line before its learning record goes. -/
theorem kept_lineCleared (s : State) (l : LineId) :
    Kept s ((((s.turnOffConds (.line l)).zeroMaskedRun l).dropNotices (.line l)).dropConfirm (.line l)) :=
  (kept_turnOffConds ..).trans ((kept_zeroMaskedRun ..).trans ((kept_dropNotices ..).trans (kept_dropConfirm ..)))

theorem recordsKept_lineOffEffects {l : LineId} (hoff : s.isOff (.line l) = true) :
    RecordsKept s (s.lineOffEffects l) :=
  (kept_lineCleared s l).records.trans (recordsKept_setLearn (((kept_lineCleared s l).off _).trans hoff) none)

theorem isCleared_lineOffEffects (s : State) {l : LineId} {id : CondId} (hid : id.subject = .line l) :
    ((s.lineOffEffects l).cond id).isCleared := by
  have hcond : ∀ u : State,
      ((((u.zeroMaskedRun l).dropNotices (.line l)).dropConfirm (.line l)).setLearn l none).cond id = u.cond id :=
    fun _ => rfl
  rw [State.lineOffEffects, hcond, cond_turnOffConds, if_pos hid]
  exact ⟨rfl, rfl, rfl, rfl⟩

theorem learn_lineOffEffects (s : State) (l j : LineId) :
    (s.lineOffEffects l).learn[j] = if j = l then none else s.learn[j] := by
  have hlearn := (kept_lineCleared s l).learn
  rw [State.lineOffEffects, getElem_setLearn, hlearn]

theorem recordsKept_reactLineState {l : LineId} {old new : SubjState} (hoff : new = .off → s.isOff (.line l) = true) :
    RecordsKept s (s.reactLineState l old new) := by
  unfold State.reactLineState
  split
  · next h => exact recordsKept_lineOffEffects (hoff h.2)
  · exact (Kept.ite (kept_announceActive ..) (.refl s)).records

/-- A line's learning record goes exactly where the line has been set OFF (R5). -/
theorem learn_reactLineState (s : State) (l j : LineId) (old new : SubjState) :
    (s.reactLineState l old new).learn[j]
      = if j = l ∧ old ≠ .off ∧ new = .off then none else s.learn[j] := by
  by_cases h : old ≠ .off ∧ new = .off
  · rw [State.reactLineState, if_pos h, learn_lineOffEffects]
    simp only [h.1, h.2, not_false_eq_true, ne_eq, and_self, and_true]
  · have hkept : Kept s (if old = .held ∧ new = .watching ∧ s.lineInEmergency l = false then s.announceActive (.line l)
        else s) := .ite (kept_announceActive ..) (.refl s)
    rw [State.reactLineState, if_neg h, hkept.learn, if_neg fun hj => h hj.2]

theorem cfg_reactLineState (s : State) (l : LineId) (old new : SubjState) :
    (s.reactLineState l old new).cfg = s.cfg := by
  unfold State.reactLineState
  split
  · exact cfg_lineOffEffects s l
  · split
    · exact (judging_announceActive ..).cfg
    · rfl

theorem boot_reactLineState (s : State) (l : LineId) (old new : SubjState) :
    (s.reactLineState l old new).boot = s.boot := by
  unfold State.reactLineState
  split
  · have hboot : ∀ u : State,
        ((((u.zeroMaskedRun l).dropNotices (.line l)).dropConfirm (.line l)).setLearn l none).boot = u.boot :=
      fun _ => rfl
    rw [State.lineOffEffects, hboot, (judging_turnOffConds s (.line l)).boot]
  · split
    · exact (judging_announceActive ..).boot
    · rfl

theorem kept_markRebuild (s : State) : Kept s s.markRebuild := .ite .of_conds (.refl s)

theorem kept_reactLineAmp (s : State) (l : LineId) (written : Bool) : Kept s (s.reactLineAmp l written) :=
  .ite ((kept_markRebuild s).trans (.ite (kept_attributeLine ..) (.refl _))) (.refl s)

theorem kept_reactLineProfile (s : State) (l : LineId) (old new : ProfileId) :
    Kept s (s.reactLineProfile l old new) := kept_reevaluateAll ..

/-! ### LCONV, SEQ and EBRG react (R5, R80, R82, R89) -/

theorem kept_earthAfterOff (s : State) (l : LineId) : Kept s (s.earthAfterOff l) := kept_withEbrg (earthAfterOff_frame s l)

theorem kept_grantDecision (s : State) : Kept s s.grantDecision := kept_of_report (grantDecision_reportFrame s)

theorem kept_freeReport (s : State) (order : RaceOrder) : Kept s (s.freeReport order) :=
  kept_of_report (freeReport_frame s order)

theorem kept_blocksAfterLineOff (s : State) (l : LineId) (order : RaceOrder) : Kept s (s.blocksAfterLineOff l order) := by
  unfold State.blocksAfterLineOff
  split
  · cases order with
    | earthFirst => exact (kept_releaseLconv s).trans ((kept_earthAfterOff ..).trans (kept_grantDecision _))
    | seqFirst => exact (kept_releaseLconv s).trans ((kept_grantDecision _).trans (kept_earthAfterOff ..))
  · exact .ite (kept_earthAfterOff s l) (.refl s)

theorem kept_reactBlocks (s : State) (l : LineId) (old new : SubjState) (order : RaceOrder) :
    Kept s (s.reactBlocks l old new order) :=
  .ite (kept_blocksAfterLineOff ..) (.ite (.ite (kept_choose s) (.refl s)) (.refl s))

/-! ### The whole request -/

/-- A SET-LINE once the line's entry has been written. -/
def lineEntered (c : LineChange) (s : State) : State :=
  s.bumpCounter.setLineEntry c.line (c.write (s.line c.line))

/-- A SET-LINE once the line's state field has been reacted to. -/
def lineTold (c : LineChange) (s : State) : State :=
  (lineEntered c s).reactLineState c.line (s.line c.line).state (c.write (s.line c.line)).state

/-- A SET-LINE before the profile and the zref written are reacted to. -/
def lineAssigned (c : LineChange) (s : State) : State :=
  (((lineTold c s).reevalOutputs.reactLineAmp c.line c.amp.isSome).announceEntries s).reevalOutputs

/-- A SET-LINE before the zref written is reacted to. -/
def lineRejudged (c : LineChange) (s : State) : State :=
  (lineAssigned c s).reactLineProfile c.line (s.line c.line).profile (c.write (s.line c.line)).profile

theorem applySetLine_stages (c : LineChange) (order : RaceOrder) (s : State) :
    applySetLine c order s
      = ((lineRejudged c s).reactZref c.line c.zref (s.line c.line).zref).reactBlocks c.line (s.line c.line).state
          (c.write (s.line c.line)).state order := rfl

theorem kept_lineAssigned (c : LineChange) (s : State) : Kept (lineTold c s) (lineAssigned c s) :=
  (kept_reevalOutputs _).trans ((kept_reactLineAmp ..).trans ((kept_announceEntries ..).trans (kept_reevalOutputs _)))

theorem kept_lineRejudged (c : LineChange) (s : State) : Kept (lineTold c s) (lineRejudged c s) :=
  (kept_lineAssigned c s).trans (kept_reactLineProfile ..)

theorem kept_afterRejudged (c : LineChange) (order : RaceOrder) (s : State) :
    Kept (lineRejudged c s) (applySetLine c order s) := by
  rw [applySetLine_stages]
  exact (kept_reactZref ..).trans (kept_reactBlocks ..)

theorem kept_afterTold (c : LineChange) (order : RaceOrder) (s : State) :
    Kept (lineTold c s) (applySetLine c order s) := (kept_lineRejudged c s).trans (kept_afterRejudged c order s)

theorem cfg_lineTold (c : LineChange) (s : State) :
    (lineTold c s).cfg = { s.cfg with lines := s.cfg.lines.set c.line (c.write (s.line c.line)) } :=
  cfg_reactLineState ..

theorem line_lineEntered (c : LineChange) (s : State) (j : LineId) :
    (lineEntered c s).line j = if j = c.line then c.write (s.line c.line) else s.line j :=
  line_setLineEntry s.bumpCounter c.line j _

theorem isOff_lineEntered (c : LineChange) (s : State) :
    (lineEntered c s).isOff (.line c.line) = decide ((c.write (s.line c.line)).state = .off) := by
  rw [isOff_line, line_lineEntered, if_pos rfl]

theorem lineProfile_lineEntered (c : LineChange) (s : State) (j : LineId) :
    (lineEntered c s).lineProfile j
      = if j = c.line then s.cfg.profiles[(c.write (s.line c.line)).profile] else s.lineProfile j := by
  simp only [State.lineProfile, line_lineEntered]
  split
  · rfl
  · rfl

theorem recordsKept_lineTold (c : LineChange) (s : State) :
    RecordsKept (lineEntered c s) (lineTold c s) :=
  recordsKept_reactLineState fun h => (isOff_lineEntered c s).trans (decide_eq_true h)

/-- Where the profile of a line gives a condition another rule, the change of profile re-evaluates it (R6, R117). -/
theorem mem_changedLineKinds {old new : Profile} {k : LineKind} (hvoted : (CondId.line l k).voted = true)
    (h : (if k = .earth then new.earthRule else new.impRule) ≠ if k = .earth then old.earthRule else old.impRule) :
    k ∈ changedLineKinds old new := by
  unfold changedLineKinds
  cases k with
  | earth => exact List.mem_append_right _ (by simpa using Ne.symm h)
  | degraded => cases hvoted
  | _ => exact List.mem_append_left _ (by simpa [impedanceKinds] using Ne.symm h)

theorem ruleFor_line (s : State) (l : LineId) (k : LineKind) :
    s.ruleFor (.line l k) = if k = .earth then (s.lineProfile l).earthRule else (s.lineProfile l).impRule := by
  cases k <;> rfl

/-- A line's condition under a rule other than before the request has been re-evaluated (R6, R117). -/
theorem settled_applySetLine (c : LineChange) (order : RaceOrder) (s : State) {k : LineKind}
    (hvoted : (CondId.line c.line k).voted = true)
    (hon : (lineEntered c s).isOff (.line c.line) = false)
    (hrule : (lineEntered c s).ruleFor (.line c.line k)
      ≠ s.ruleFor (.line c.line k)) : Settled (applySetLine c order s) (.line c.line k) := by
  have hassigned := (recordsKept_lineTold c s).trans (kept_lineAssigned c s).records
  have hprofiles : (lineAssigned c s).cfg.profiles = s.cfg.profiles := by
    rw [(kept_lineAssigned c s).profiles, cfg_lineTold]
  refine (kept_afterRejudged c order s).records.settled
    (settled_reevaluateAll (List.mem_map_of_mem ?_) ((hassigned.off _).trans hon))
  rw [hprofiles]
  refine mem_changedLineKinds (l := c.line) hvoted ?_
  rwa [ruleFor_line, ruleFor_line, lineProfile_lineEntered, if_pos rfl] at hrule

theorem judged_applySetLine (c : LineChange) (order : RaceOrder) (h : Judged s) : Judged (applySetLine c order s) := by
  have hall := (recordsKept_lineTold c s).trans (kept_afterTold c order s).records
  refine judged_of_rewritten (s0 := lineEntered c s) h (fun _ => rfl) hall (fun id hid => ?_) fun id hvoted hon => ?_
  · by_cases hsub : id.subject = .line c.line
    · rw [hsub] at hid ⊢
      by_cases hold : (s.line c.line).state = .off
      · exact .inl ((isOff_line ..).trans (decide_eq_true hold))
      · have hnew : (c.write (s.line c.line)).state = .off := of_decide_eq_true ((isOff_lineEntered c s).symm.trans hid)
        have htold : lineTold c s = (lineEntered c s).lineOffEffects c.line :=
          if_pos ⟨hold, hnew⟩
        refine .inr (((kept_afterTold c order s).record id).cleared (not_votable_of_off ?_) ?_)
        · rw [hsub, (recordsKept_lineTold c s).off]
          exact hid
        · rw [htold]
          exact isCleared_lineOffEffects _ hsub
    · refine .inl ((?_ : _ = _).symm.trans hid)
      cases hx : id.subject with
      | line j =>
        have hj : j ≠ c.line := fun hj => hsub (hx.trans (congrArg Subject.line hj))
        rw [isOff_line, isOff_line, line_lineEntered, if_neg hj]
      | amp a => rfl
      | dev => rfl
  · by_cases hsub : id.subject = .line c.line
    · obtain ⟨k, rfl⟩ : ∃ k, id = .line c.line k := by
        cases id with
        | line j k => exact ⟨k, congrArg (CondId.line · k) (Subject.line.inj hsub)⟩
        | amp a k => cases hsub
        | dev k => cases hsub
      by_cases hrule : (lineEntered c s).ruleFor (.line c.line k)
          = s.ruleFor (.line c.line k)
      · exact .inl hrule
      · exact .inr (settled_applySetLine c order s hvoted hon hrule)
    · left
      cases id with
      | line j k =>
        have hj : j ≠ c.line := fun hj => hsub (congrArg Subject.line hj)
        rw [ruleFor_line, ruleFor_line, lineProfile_lineEntered, if_neg hj]
      | amp a k => rfl
      | dev k => rfl

/-- A zref written is the old one, or HIGHZ and LOWZ have been emptied (R7). -/
theorem zref_or_empty (c : LineChange) (order : RaceOrder) (s : State) :
    (c.write (s.line c.line)).zref = (s.line c.line).zref ∨
      (applySetLine c order s = ((lineRejudged c s).emptyRef c.line).reactBlocks c.line (s.line c.line).state
        (c.write (s.line c.line)).state order) := by
  rw [applySetLine_stages]
  cases hz : c.zref with
  | none => exact .inl (by rw [LineChange.write, hz]; rfl)
  | some z =>
    cases z with
    | none => exact .inr rfl
    | some z =>
      by_cases hsame : (s.line c.line).zref = some z
      · exact .inl (by rw [LineChange.write, hz, hsame]; rfl)
      · exact .inr (by rw [State.reactZref, if_neg hsame])

theorem gated_applySetLine (c : LineChange) (order : RaceOrder) (h : ReferenceGated s) :
    ReferenceGated (applySetLine c order s) := by
  have hafter := kept_afterTold c order s
  have hall := (recordsKept_lineTold c s).trans hafter.records
  have htold : ∀ j : LineId, (applySetLine c order s).line j
      = if j = c.line then c.write (s.line c.line) else s.line j := fun j => by
    rw [hafter.line, State.line, cfg_lineTold]
    exact line_lineEntered c s j
  have hlearn : ∀ j : LineId, (applySetLine c order s).learn[j]
      = if j = c.line ∧ (s.line c.line).state ≠ .off ∧ (c.write (s.line c.line)).state = .off then none
        else s.learn[j] := fun j => by
    rw [hafter.learn]
    exact learn_reactLineState ..
  refine gated_of_rewritten (s0 := lineEntered c s) h (fun _ => rfl) hall (fun j hj => ?_) (fun j hj => ?_) fun hp j => ?_
  · have hlost : (applySetLine c order s).learn[j].isNone = false → s.learn[j].isNone = false := by
      rw [hlearn]
      split
      · nofun
      · exact id
    have hgate : ∀ z : Option Nat, ((s.line j).zref = z) → ((applySetLine c order s).line j).zref = z →
        s.refVotes j = false := fun z hs ht => by
      rw [State.refVotes, ht, Bool.and_eq_false_iff] at hj
      rw [State.refVotes, hs, Bool.and_eq_false_iff]
      exact hj.imp id hlost
    by_cases hjl : j = c.line
    · subst hjl
      obtain hz | heq := zref_or_empty c order s
      · have hs := hgate _ hz.symm (by rw [htold, if_pos rfl])
        refine .inr ⟨hs, ?_⟩
        rw [State.refVotes, line_lineEntered, if_pos rfl, hz]
        exact hs
      · left
        have hempty := refEmpty_emptyRef (lineRejudged c s) c.line
        have hvotes : ((lineRejudged c s).emptyRef c.line).refVotes c.line = false := by
          rw [← (kept_reactBlocks _ c.line (s.line c.line).state (c.write (s.line c.line)).state order).refVotes, ← heq]
          exact hj
        rw [heq]
        exact (kept_reactBlocks ..).records.refEmpty hvotes hempty
    · have hs := hgate _ rfl (by rw [htold, if_neg hjl])
      refine .inr ⟨hs, ?_⟩
      rw [State.refVotes, line_lineEntered, if_neg hjl]
      exact hs
  · rw [hlearn] at hj
    split at hj
    · cases hj
    · next hnot =>
      have hs := h.learning_not_off j hj
      rw [htold]
      split
      · next hjl =>
        subst hjl
        exact fun hoff => hnot ⟨rfl, hs, hoff⟩
      · exact hs
  · have hphase := hafter.starting hp
    rw [lineTold, boot_reactLineState] at hphase
    rw [hlearn, h.starting_none hphase j]
    split <;> rfl

theorem upholds_applySetLine (c : LineChange) (order : RaceOrder) : Upholds s (applySetLine c order s) :=
  ⟨judged_applySetLine c order, gated_applySetLine c order⟩

end

end Sys2Proof.Machine.Judge
end

section
/-! SUPPORT. The two invariants of the condition records through SET-AMP, SET-AMP-WIDE, SET-PROFILE and the setting requests
that write no ground, and through the actions. -/

namespace Sys2Proof.Machine.Judge

open Converter Scan

variable {s t : State}

/-- A table written that no line, amplifier or rule is read from, then acts that keep the records. -/
theorem gated_of_ground {s0 : State} (h : ReferenceGated s) (hcond : ∀ id, s0.cond id = s.cond id) (k : Kept s0 t)
    (hlines : s0.cfg.lines = s.cfg.lines) (hlearn : s0.learn = s.learn)
    (hstarting : s0.boot.phase = .starting → s.boot.phase = .starting) : ReferenceGated t := by
  have hvotes : ∀ l, s0.refVotes l = s.refVotes l := fun l => by
    simp only [State.refVotes, State.line, hlines, hlearn]
  refine gated_of_rewritten h hcond k.records (fun l hl => ?_) (fun l hl => ?_) fun hp l => ?_
  · rw [k.refVotes] at hl
    exact .inr ⟨(hvotes l).symm.trans hl, hl⟩
  · have hs := h.learning_not_off l (by rw [← hlearn, ← k.learn]; exact hl)
    rw [k.line, State.line, hlines]
    exact hs
  · have hnone := h.starting_none (hstarting (k.starting hp)) l
    rw [k.learn, hlearn]
    exact hnone

/-! ## SET-AMP (R9, R33, R123, R125) -/

theorem kept_ampOffEffects (s : State) (a : AmpId) : Kept s (s.ampOffEffects a) :=
  (kept_turnOffConds ..).trans ((kept_dropNotices ..).trans (kept_dropConfirm ..))

theorem kept_reactAmpState (s : State) (a : AmpId) (old new : SubjState) : Kept s (s.reactAmpState a old new) :=
  .ite (kept_ampOffEffects s a) (.ite (kept_setFirstCount s a true) (.ite (kept_announceActive ..) (.refl s)))

theorem kept_abandonAmp (s : State) (a : AmpId) (old new : SubjState) (order : RaceOrder) :
    Kept s (s.abandonAmp a old new order) :=
  .ite ((kept_releaseLconv s).trans (kept_freeReport ..)) (.refl s)

theorem isCleared_ampOffEffects (s : State) {a : AmpId} {id : CondId} (hid : id.subject = .amp a) :
    ((s.ampOffEffects a).cond id).isCleared := by
  have hcond : ∀ u : State, ((u.dropNotices (.amp a)).dropConfirm (.amp a)).cond id = u.cond id := fun _ => rfl
  rw [State.ampOffEffects, hcond, cond_turnOffConds, if_pos hid]
  exact ⟨rfl, rfl, rfl, rfl⟩

/-- A SET-AMP once the amplifier's entry has been written. -/
def ampEntered (c : AmpChange) (s : State) : State := s.bumpCounter.setAmpEntry c.amp (c.write (s.amp c.amp))

theorem isOff_ampEntered (c : AmpChange) (s : State) :
    (ampEntered c s).isOff (.amp c.amp) = decide ((c.write (s.amp c.amp)).state = .off) := by
  rw [isOff_amp, ampEntered, amp_setAmpEntry, if_pos rfl]

theorem kept_afterAmpState (u : State) (a : AmpId) (old new : SubjState) (order : RaceOrder) :
    Kept u (u.reevalOutputs.abandonAmp a old new order) := (kept_reevalOutputs u).trans (kept_abandonAmp ..)

theorem kept_applySetAmp (c : AmpChange) (order : RaceOrder) (s : State) :
    Kept (ampEntered c s) (applySetAmp c order s) :=
  (kept_reactAmpState (ampEntered c s) c.amp (s.amp c.amp).state (c.write (s.amp c.amp)).state).trans
    (kept_afterAmpState ..)

theorem judged_applySetAmp (c : AmpChange) (order : RaceOrder) (h : Judged s) : Judged (applySetAmp c order s) := by
  have hkept := kept_applySetAmp c order s
  refine judged_of_rewritten (s0 := ampEntered c s) h (fun _ => rfl) hkept.records (fun id hid => ?_)
    fun id _ _ => .inl rfl
  by_cases hsub : id.subject = .amp c.amp
  · rw [hsub] at hid ⊢
    by_cases hold : (s.amp c.amp).state = .off
    · exact .inl ((isOff_amp ..).trans (decide_eq_true hold))
    · have hnew : (c.write (s.amp c.amp)).state = .off := of_decide_eq_true ((isOff_ampEntered c s).symm.trans hid)
      have heq : applySetAmp c order s = ((ampEntered c s).ampOffEffects c.amp).reevalOutputs.abandonAmp c.amp
          (s.amp c.amp).state (c.write (s.amp c.amp)).state order :=
        congrArg (fun u : State => u.reevalOutputs.abandonAmp c.amp (s.amp c.amp).state (c.write (s.amp c.amp)).state order)
          (if_pos ⟨hold, hnew⟩)
      rw [heq]
      refine .inr (((kept_afterAmpState ..).record id).cleared (not_votable_of_off ?_) (isCleared_ampOffEffects _ hsub))
      rw [hsub, (kept_ampOffEffects ..).off]
      exact hid
  · refine .inl ((?_ : _ = _).symm.trans hid)
    cases hx : id.subject with
    | line j => rfl
    | amp a =>
      have ha : a ≠ c.amp := fun ha => hsub (hx.trans (congrArg Subject.amp ha))
      rw [isOff_amp, isOff_amp, ampEntered, amp_setAmpEntry, if_neg ha]
      rfl
    | dev => rfl

theorem upholds_applySetAmp (c : AmpChange) (order : RaceOrder) : Upholds s (applySetAmp c order s) :=
  ⟨judged_applySetAmp c order, fun h => gated_of_ground (s0 := ampEntered c s) h (fun _ => rfl)
    (kept_applySetAmp c order s) rfl rfl id⟩

/-! ## SET-AMP-WIDE and SET-PROFILE (R10, R12, R117) -/

/-- A SET-AMP-WIDE once the settings have been written. -/
def wideEntered (c : AmpWideChange) (s : State) : State :=
  { s.bumpCounter with cfg := { s.bumpCounter.cfg with wide := c.write s.cfg.wide } }

theorem applySetAmpWide_stages (c : AmpWideChange) (s : State) :
    applySetAmpWide c s = if s.cfg.wide.rule = (c.write s.cfg.wide).rule then wideEntered c s
      else (wideEntered c s).reevaluateAll allAmpConds := rfl

theorem kept_applySetAmpWide (c : AmpWideChange) (s : State) : Kept (wideEntered c s) (applySetAmpWide c s) := by
  rw [applySetAmpWide_stages]
  exact .ite (.refl _) (kept_reevaluateAll ..)

theorem mem_allAmpConds (a : AmpId) (k : AmpKind) : CondId.amp a k ∈ allAmpConds :=
  List.mem_flatMap.mpr ⟨a, by simp [allAmps], (mem_condsOf ..).mpr rfl⟩

theorem judged_applySetAmpWide (c : AmpWideChange) (h : Judged s) : Judged (applySetAmpWide c s) := by
  refine judged_of_rewritten (s0 := wideEntered c s) h (fun _ => rfl) (kept_applySetAmpWide c s).records
    (fun id hid => .inl ?_) fun id _ hon => ?_
  · exact (off_congr (s := s) (t := wideEntered c s) (fun _ => rfl) rfl id.subject).symm.trans hid
  · cases id with
    | line l k => exact .inl (ruleFor_line s l k ▸ ruleFor_line (wideEntered c s) l k)
    | amp a k =>
      by_cases hrule : s.cfg.wide.rule = (c.write s.cfg.wide).rule
      · exact .inl hrule.symm
      · rw [applySetAmpWide_stages, if_neg hrule]
        exact .inr (settled_reevaluateAll (mem_allAmpConds a k) hon)
    | dev k => exact .inl rfl

theorem upholds_applySetAmpWide (c : AmpWideChange) : Upholds s (applySetAmpWide c s) :=
  ⟨judged_applySetAmpWide c, fun h => gated_of_ground (s0 := wideEntered c s) h (fun _ => rfl)
    (kept_applySetAmpWide c s) rfl rfl id⟩

/-- A SET-PROFILE once the profile has been written. -/
def profileEntered (c : ProfileChange) (s : State) : State :=
  { s.bumpCounter with cfg := { s.bumpCounter.cfg with
      profiles := s.cfg.profiles.set c.profile (c.write s.cfg.profiles[c.profile]) } }

theorem kept_applySetProfile (c : ProfileChange) (s : State) : Kept (profileEntered c s) (applySetProfile c s) :=
  kept_reevaluateAll ..

theorem lineProfile_profileEntered (c : ProfileChange) (s : State) (l : LineId) :
    (profileEntered c s).lineProfile l
      = if (s.line l).profile = c.profile then c.write s.cfg.profiles[c.profile] else s.lineProfile l := by
  have hget : (profileEntered c s).lineProfile l
      = (s.cfg.profiles.set c.profile (c.write s.cfg.profiles[c.profile]))[(s.line l).profile] := rfl
  rw [hget]
  by_cases h : (s.line l).profile = c.profile
  · simp [h]
  · simp [h, State.lineProfile, Fin.val_ne_of_ne (Ne.symm h)]

theorem judged_applySetProfile (c : ProfileChange) (h : Judged s) : Judged (applySetProfile c s) := by
  refine judged_of_rewritten (s0 := profileEntered c s) h (fun _ => rfl) (kept_applySetProfile c s).records
    (fun id hid => .inl ?_) fun id hvoted hon => ?_
  · exact (off_congr (s := s) (t := profileEntered c s) (fun _ => rfl) rfl id.subject).symm.trans hid
  · cases id with
    | line l k =>
      by_cases hrule : (profileEntered c s).ruleFor (.line l k) = s.ruleFor (.line l k)
      · exact .inl hrule
      · right
        rw [ruleFor_line, ruleFor_line, lineProfile_profileEntered] at hrule
        by_cases hp : (s.line l).profile = c.profile
        · have hold : s.lineProfile l = s.cfg.profiles[c.profile] := by simp only [State.lineProfile, hp]
          rw [if_pos hp, hold] at hrule
          refine settled_reevaluateAll (List.mem_flatMap.mpr ⟨l, ?_, List.mem_map_of_mem ?_⟩) hon
          · exact List.mem_filter.mpr ⟨by simp [allLines], decide_eq_true hp⟩
          · exact mem_changedLineKinds hvoted hrule
        · exact absurd (by rw [if_neg hp]) hrule
    | amp a k => exact .inl rfl
    | dev k => exact .inl rfl

theorem upholds_applySetProfile (c : ProfileChange) : Upholds s (applySetProfile c s) :=
  ⟨judged_applySetProfile c, fun h => gated_of_ground (s0 := profileEntered c s) h (fun _ => rfl)
    (kept_applySetProfile c s) rfl rfl id⟩

/-! ## The other setting requests (R13, R19, R20, R72 to R74, R87, R88, R150 to R153, R160) -/

theorem kept_applySetScan (c : ScanChange) (s : State) : Kept s (applySetScan c s) := by
  rw [applySetScan_eq]
  exact .of_conds

theorem kept_applySetPilot (d : Nat) (order : RaceOrder) (s : State) : Kept s (applySetPilot d order s) := by
  by_cases hd : s.cfg.pilotD = d
  · rw [applySetPilot_same order hd]
    exact .of_conds
  · have hset : Kept s (pilotSet s d) := .of_conds
    cases hl : s.lconv with
    | none =>
      rw [applySetPilot_idle order hd hl]
      exact hset
    | some m =>
      rw [applySetPilot_measuring order hd (by rw [hl]; rfl)]
      exact hset.trans ((kept_releaseLconv _).trans (kept_freeReport ..))

theorem kept_applySetEarth (c : EarthChange) (s : State) : Kept s (applySetEarth c s) := by
  rw [EarthBridge.applySetEarth_eq]
  exact .of_conds

theorem kept_applySetOutput (c : OutputChange) (s : State) : Kept s (applySetOutput c s) := by
  unfold applySetOutput
  cases c.out <;> exact .of_conds

/-! ## The actions (R14, R56, R122, R126, R132, R139, R171) -/

/-- LEARN in RUNNING begins a record on a line that is not OFF and empties HIGHZ and LOWZ (R118, R132). -/
theorem upholds_learnAct (c : LineId × Nat × Bool) (hrunning : s.boot.phase = .running) :
    Upholds s (learnAct c s).1 := by
  unfold learnAct
  dsimp only
  split
  · exact .refl s
  · next hon =>
    split
    · exact .refl s
    · have hget := getElem_setLearn s c.1 (r := some (LearnRec.start c.2.1))
      refine upholds_emptyRef (fun _ => rfl) (fun _ => rfl) (fun _ => rfl) (fun j hj => ?_) (fun h j hj => ?_)
        fun _ hp => ?_
      · rw [State.refVotes, State.refVotes, hget, if_neg hj]
        rfl
      · rw [hget] at hj
        by_cases hjl : j = c.1
        · subst hjl
          exact hon
        · rw [if_neg hjl] at hj
          exact h.learning_not_off j hj
      · cases hrunning.symm.trans hp

theorem upholds_abortLearnAct (l : LineId) (s : State) : Upholds s (abortLearnAct l s).1 := by
  unfold abortLearnAct
  split
  · exact .refl s
  · exact upholds_failLearning ..

theorem kept_clearLatchAct (xs : List Subject) (s : State) : Kept s (clearLatchAct xs s).1 :=
  (kept_clearLatches ..).trans (kept_reevalOutputs _)

theorem kept_clearMinmaxAct (ls : List LineId) (s : State) : Kept s (clearMinmaxAct ls s).1 :=
  .foldl (fun u l => .of_conds (s := u) (t := u.clearMinMax l)) ls s

theorem kept_emergencyAct (zones : BitVec 16) (s : State) : Kept s (emergencyAct zones s).1 := by
  have hset : Kept s { s with zones := zones } := .of_conds
  exact hset.trans ((kept_announceEntries _ s).trans (kept_reevalOutputs _))

theorem kept_saveImageAct (s : State) : Kept s (saveImageAct s).1 := by
  unfold saveImageAct
  split
  · exact .refl s
  · exact .of_conds

theorem kept_restartUnitAct (s : State) : Kept s (restartUnitAct s).1 := by
  unfold restartUnitAct
  split <;> exact .refl s

theorem kept_pollAct (minimum : Level) (s : State) : Kept s (pollAct minimum s).1 := by
  unfold pollAct
  split
  · exact .of_conds
  · exact .refl s

/-! ### TEST-INJECT (R126) -/

/-- The subject and the condition a TEST-INJECT names: the condition is one of the subject's and takes votes. -/
theorem parseTestInject_some {payload : List Byte} {c : Injection} (h : parseTestInject payload = some c) :
    c.cond.subject = c.subject ∧ c.cond.voted = true := by
  simp only [parseTestInject, Option.bind_eq_bind, Option.bind_eq_some_iff] at h
  obtain ⟨items, -, subjectCode, -, subject, -, kindCode, -, cond, hcond, count, -, hc⟩ := h
  split at hc
  · next hvoted =>
    cases hc
    refine ⟨?_, hvoted⟩
    unfold CondId.ofCode at hcond
    split at hcond
    · exact (mem_condsOf ..).mp (List.mem_of_find?_eq_some hcond)
    · cases hcond
  · cases hc

/-- The injection an accepted TEST-INJECT leaves on a condition of the subject it names. -/
def Injection.left (c : Injection) (id : CondId) : Option Nat :=
  if id = c.cond ∧ c.count ≠ 0 then some (min 16 c.count) else none

theorem cond_applyInject (c : Injection) (s : State) (hsub : c.cond.subject = c.subject) (id : CondId) :
    (applyInject c s).cond id
      = if id.subject = c.subject then { s.cond id with injection := Injection.left c id } else s.cond id := by
  unfold applyInject Injection.left
  dsimp only
  by_cases hcount : c.count = 0
  · rw [if_pos hcount, cond_dropInjections]
    simp only [hcount, ne_eq, not_true_eq_false, and_false, if_false]
  · rw [if_neg hcount, State.cond_setCond, cond_dropInjections, cond_dropInjections]
    by_cases hid : id = c.cond
    · subst hid
      simp [hsub, hcount, maxInjection]
    · simp [hid]

/-- An accepted TEST-INJECT leaves one injection on its subject, within its range. -/
theorem judged_applyInject (c : Injection) (h : Judged s) (hsub : c.cond.subject = c.subject)
    (hvoted : c.cond.voted = true) (hon : s.isOff c.subject = false) : Judged (applyInject c s) := by
  have hcond := cond_applyInject c s hsub
  have hground := ground_of_judging (judging_applyInject c s)
  have hleft : ∀ id, (Injection.left c id).isSome = true → id = c.cond := fun id hid => by
    unfold Injection.left at hid
    split at hid
    · next hc => exact hc.1
    · cases hid
  have hnamed : ∀ id, id.subject = c.subject → ((applyInject c s).cond id).injection.isSome = true → id = c.cond :=
    fun id hx hid => hleft id (by rw [hcond, if_pos hx] at hid; exact hid)
  exact
    { shape := fun id => by
        have hs := h.shape id
        rw [hcond]
        split
        · refine ⟨hs.window_le, hs.active_latched, fun n hn => ?_, fun hu => ?_⟩
          · change Injection.left c id = some n at hn
            unfold Injection.left at hn
            split at hn
            · cases hn; omega
            · cases hn
          · obtain ⟨hwindow, -, hstate⟩ := hs.unvoted hu
            refine ⟨hwindow, Option.not_isSome_iff_eq_none.mp fun hid => ?_, hstate⟩
            rw [hleft id hid, hvoted] at hu
            cases hu
        · exact hs
      settled := fun id hv => by
        rw [hground.rule, hcond]
        split <;> exact h.settled id hv
      off_cleared := fun id hid => by
        rw [hground.off] at hid
        rw [hcond, if_neg fun hx => absurd (hid.symm.trans (hx ▸ hon)) (by decide)]
        exact h.off_cleared id hid
      one_injection := fun a b hab ha hb => by
        by_cases hx : a.subject = c.subject
        · exact (hnamed a hx ha).trans (hnamed b (hab.symm.trans hx) hb).symm
        · rw [hcond, if_neg hx] at ha
          rw [hcond, if_neg fun hb => hx (hab.trans hb)] at hb
          exact h.one_injection a b hab ha hb }

theorem gated_applyInject (c : Injection) (h : ReferenceGated s) (hsub : c.cond.subject = c.subject) :
    ReferenceGated (applyInject c s) := by
  have hground := ground_of_judging (judging_applyInject c s)
  exact
    { empty := fun l hl k hk => by
        rw [hground.refVotes] at hl
        rw [cond_applyInject c s hsub]
        split <;> exact h.empty l hl k hk
      learning_not_off := fun l hl => by
        rw [hground.line]
        exact h.learning_not_off l (hground.learn ▸ hl)
      starting_none := fun hp l => by
        rw [hground.learn]
        exact h.starting_none (hground.starting hp) l }

theorem upholds_testInjectAct (c : Injection) (s : State) (hsub : c.cond.subject = c.subject)
    (hvoted : c.cond.voted = true) : Upholds s (testInjectAct c s).1 := by
  unfold testInjectAct
  split
  · exact .refl s
  · next hon =>
    exact ⟨fun h => judged_applyInject c h hsub hvoted (by simpa using hon), fun h => gated_applyInject c h hsub⟩

end Sys2Proof.Machine.Judge
end

section
/-! SUPPORT. The two invariants of the condition records through the restarts, the ports and the events, and the obligations
that every step keeps them. -/

namespace Sys2Proof.Machine.Judge

open Converter Scan

section
variable {s t u : State}

/-! ## Restarts (R108, R129, R167 to R171) -/

/-- The records and the tables stay, and no line learns: what a reset that stops the part leaves. -/
theorem upholds_stopped (hcond : ∀ id, t.cond id = s.cond id) (hcfg : t.cfg = s.cfg)
    (hlearn : ∀ l : LineId, t.learn[l] = none) : Upholds s t := by
  have hline : ∀ l, t.line l = s.line l := fun l => by simp only [State.line, hcfg]
  have hkept := (Kept.refl t).records
  refine ⟨fun h => ?_, fun h => ?_⟩
  · exact judged_of_rewritten h hcond hkept (fun id hid => .inl ((isOff_congr hcfg _).symm.trans hid))
      fun id _ _ => .inl (ruleFor_congr (fun l => by rw [hline]) (by rw [hcfg]) (by rw [hcfg]) id)
  · refine gated_of_rewritten h hcond hkept (fun l hl => .inr ⟨?_, hl⟩) (fun l hl => ?_) fun _ => hlearn
    · rw [State.refVotes, hlearn, hline, Option.isNone_none, Bool.and_true] at hl
      rw [State.refVotes, hl, Bool.false_and]
    · rw [hlearn] at hl
      cases hl

theorem learn_stopAll (s : State) (l : LineId) : s.stopAll.learn[l] = none := by
  simp [State.stopAll]

/-- A memory written or spoilt, and the save status with it. -/
theorem kept_withMemory (s : State) (memory : List Host.Cell) (freeCount : Nat) (save : SaveStatus)
    (saveCopy : Option Settings) :
    Kept s { s with
      memory := memory, freeCount := freeCount, boot := { s.boot with save := save, saveCopy := saveCopy } } :=
  .of_conds

theorem abandonSave_eq (s : State) :
    ∃ memory freeCount, s.abandonSave = { s with memory := memory, freeCount := freeCount } := by
  unfold State.abandonSave
  split
  · exact ⟨_, _, rfl⟩
  · exact ⟨s.memory, s.freeCount, rfl⟩

theorem upholds_hardStop (s : State) (power : Power) : Upholds s { s.hardStop with power := power } := by
  have hlearn := learn_stopAll s.abandonSave
  unfold State.hardStop
  obtain ⟨memory, freeCount, heq⟩ := abandonSave_eq s
  rw [heq] at hlearn ⊢
  exact upholds_stopped (fun _ => rfl) rfl hlearn

theorem cond_clearAll (s : State) (id : CondId) : s.clearAll.cond id = Cond.cleared := by
  cases id with
  | line l k =>
    have hget : s.clearAll.cond (.line l k) = LineConds.cleared.get k := by
      simp [State.cond, State.clearAll, Records.cleared, Records.cond]
    rw [hget]
    cases k <;> rfl
  | amp a k =>
    have hget : s.clearAll.cond (.amp a k) = AmpConds.cleared.get k := by
      simp [State.cond, State.clearAll, Records.cleared, Records.cond]
    rw [hget]
    cases k <;> rfl
  | dev k => cases k <;> rfl

/-- The Clear step leaves every record cleared (R108). -/
theorem judged_clearAll (s : State) : Judged s.clearAll where
  shape id := by
    rw [cond_clearAll]
    exact ⟨Nat.zero_le _, nofun, nofun, fun _ => ⟨rfl, rfl, nofun⟩⟩
  settled id _ := by
    rw [cond_clearAll]
    exact judged_of_empty rfl
  off_cleared id _ := by
    rw [cond_clearAll]
    exact ⟨rfl, rfl, rfl, rfl⟩
  one_injection a b _ ha := by
    rw [cond_clearAll] at ha
    cases ha

theorem gated_clearAll (h : ∀ l : LineId, s.learn[l] = none) : ReferenceGated s.clearAll where
  empty l _ k _ := by
    rw [cond_clearAll]
    exact ⟨rfl, rfl⟩
  learning_not_off l hl := by
    change s.learn[l].isSome = true at hl
    rw [h] at hl
    cases hl
  starting_none _ := h

/-- CONFIG, a condition of DEV without votes, moved by a start-up or a save (R129). -/
theorem kept_moveConfig (s : State) {new : CondState} (hnew : new ≠ .pending) :
    Kept s (s.moveCond (.dev .config) new none none false) :=
  kept_moveCond s none none false rfl hnew (votable_of_on rfl fun _ => ⟨nofun, nofun⟩)

theorem kept_announceRestart (s : State) (cause : RestartCause) (config : Bool) :
    Kept s (s.announceRestart cause config) := by
  have htold := (kept_notify s .dev .restart .restart (some cause.cause) none false).trans (kept_reevalOutputs _)
  exact .ite (htold.trans (kept_moveConfig _ nofun)) htold

theorem kept_run (s : State) : Kept s s.run := by
  have hphase : Kept s { s with boot := { s.boot with phase := .running } } :=
    .of_conds { starting := fun h : Phase.running = .starting => absurd h (by decide) }
  have hstart : ∀ u : State, Kept u u.startOutputs := fun _ => .of_conds
  exact hphase.trans ((hstart _).trans ((kept_startRound _).trans (kept_choose _)))

/-- A start-up begins with cleared records, whatever stood before. -/
theorem upholds_startUp (u : State) (cause : RestartCause) (config : Bool)
    (h : ReferenceGated u → ∀ l : LineId, s.learn[l] = none) : Upholds u (s.startUp cause config) := by
  have hkept := ((kept_announceRestart s.clearAll cause config).trans (kept_run _)).upholds
  exact ⟨fun _ => hkept.judged (judged_clearAll s), fun hu => hkept.gated (gated_clearAll (h hu))⟩

theorem upholds_softRestart (s : State) (k : RestartCopy) : Upholds s (s.softRestart k) :=
  upholds_startUp s _ _ fun _ => learn_stopAll s

theorem upholds_restartMultiAct (payload : List Byte) (s : State) : Upholds s (restartMultiAct payload s) := by
  unfold restartMultiAct
  split
  · exact upholds_softRestart ..
  · exact .refl s

theorem upholds_release (cause : RestartCause) (straps : Straps) (hs : Scheduled s) (hp : s.poweredUp = false) :
    Upholds s (s.release cause straps) := by
  unfold State.release
  dsimp only
  split
  · exact upholds_startUp s _ _ fun h => h.starting_none (starting_of_unpowered hs hp)
  · exact Kept.upholds .of_conds

theorem upholds_finishLoad (cause : RestartCause) (loaded : Option Settings) (hs : Scheduled s)
    (hload : s.boot.image = .loading) : Upholds s (s.finishLoad cause loaded) := by
  have hnone : ReferenceGated s → ∀ l : LineId, s.learn[l] = none := fun h =>
    h.starting_none (hs.loading_starting hload)
  cases loaded with
  | some cfg => exact upholds_startUp s _ _ hnone
  | none => exact upholds_startUp s _ _ hnone

theorem kept_saveDone (s : State) (image : List Byte) : Kept s (s.saveDone image) := by
  have hsaved := kept_withMemory s (writeBytes s.memory 0 image) s.freeCount .done none
  exact .ite (hsaved.trans (kept_moveConfig _ nofun)) hsaved

theorem kept_saveFailed (s : State) (image : List Byte) : Kept s (s.saveFailed image) := by
  unfold State.saveFailed State.spoilMemory
  exact kept_withMemory ..

/-! ## Ports (R155 to R158) -/

theorem kept_setPort (s : State) (p : Port) (x : PortState) : Kept s (s.setPort p x) := by
  cases p <;> exact .of_conds

/-- The arrival of a request whose acts uphold the invariants upholds them; every kind but IDENTIFY is acted on in RUNNING
alone. -/
theorem upholds_deliver (s : State) (p : Port) (dest kind : Byte) (payload : List Byte)
    {unit : State → State × Answer} {multi : State → State}
    (hunit : ∀ u, (kind ≠ identifyKind → u.boot.phase = .running) → Upholds u (unit u).1)
    (hmulti : ∀ u, Upholds u (multi u)) : Upholds s (s.deliver p dest kind payload unit multi) := by
  have hset : ∀ (u : State) (x : PortState), Upholds u (u.setPort p x) := fun u x => (kept_setPort u p x).upholds
  unfold State.deliver
  split
  case isFalse => exact .refl s
  split
  case isTrue => exact hset ..
  split
  · exact hset ..
  · split
    · exact hset ..
    · refine (hset s { s.port p with inFrame := false }).trans (t := s.hunt p) ?_
      unfold State.takeUnit
      split
      · exact hset ..
      · next h =>
        refine (hunit (s.hunt p) fun hkind => ?_).trans (hset ..)
        cases hphase : (s.hunt p).boot.phase with
        | starting => exact absurd ⟨hphase, hkind⟩ h
        | running => rfl
  · split
    · exact hset ..
    · exact (hset s _).trans (hmulti _)

theorem upholds_noPayload (payload : List Byte) {act : State → State × Answer} (h : Upholds u (act u).1) :
    Upholds u (noPayload payload u act).1 := by
  unfold noPayload
  split
  · exact h
  · exact .refl u

theorem upholds_parsed {α : Type} {x : Option α} {act : α → State → State × Answer}
    (h : ∀ y, x = some y → Upholds u (act y u).1) : Upholds u (parsed x u act).1 := by
  cases x with
  | none => exact .refl u
  | some y => exact h y rfl

/-! ## Every command -/

theorem upholds_next (h : (.next u : Host.Outcome State Fault Refusal) = .next t) (hs : Upholds s u) : Upholds s t := by
  cases h
  exact hs

/-- A request without operands. -/
theorem upholds_plain {p : Port} {dest kind : Byte} {payload : List Byte} {act : State → State × Answer}
    (hexec : (.next (s.deliverUnit p dest kind payload fun u => noPayload payload u act)
      : Host.Outcome State Fault Refusal) = .next t)
    (hact : ∀ u, Kept u (act u).1) : Upholds s t :=
  upholds_next hexec (upholds_deliver _ _ _ _ _ (fun u _ => upholds_noPayload payload (hact u).upholds) .refl)

/-- A request whose payload parses into `α`. -/
theorem upholds_operands {α : Type} {p : Port} {dest kind : Byte} {payload : List Byte} {x : Option α}
    {act : α → State → State × Answer}
    (hexec : (.next (s.deliverUnit p dest kind payload fun u => parsed x u act)
      : Host.Outcome State Fault Refusal) = .next t)
    (hact : ∀ c u, x = some c → (kind ≠ identifyKind → u.boot.phase = .running) → Upholds u (act c u).1) : Upholds s t :=
  upholds_next hexec (upholds_deliver _ _ _ _ _ (fun u hu => upholds_parsed fun c hc => hact c u hc hu) .refl)

/-- A request that acts the same way however it is addressed. -/
theorem upholds_anyAddress {p : Port} {dest kind : Byte} {payload : List Byte} {unit : State → State × Answer}
    (hexec : (.next (s.deliverAny p dest kind payload unit) : Host.Outcome State Fault Refusal) = .next t)
    (hact : ∀ u, Upholds u (unit u).1) : Upholds s t :=
  upholds_next hexec (upholds_deliver _ _ _ _ _ (fun u _ => hact u) hact)

theorem upholds_setLineAct (order : RaceOrder) (c : LineChange) (s : State) : Upholds s (setLineAct order c s).1 := by
  unfold setLineAct
  split
  · exact .refl s
  · exact upholds_applySetLine c order

/-- Every command upholds the invariants of the condition records; that LCONV and EBRG work on no subject that is OFF, and
that a part without supply or in the Load step is in STARTING, is the agreement of the engines. -/
theorem exec_upholds (c : Instr) (hs : Scheduled s) (hexec : exec c s = .next t) : Upholds s t := by
  have hport : ∀ p x, Upholds s (s.setPort p x) := fun p x => (kept_setPort s p x).upholds
  have wait : ∀ n, Kept s (s.waitUntil n) := fun _ => .of_conds
  have waitScheduled : ∀ n, Scheduled (s.waitUntil n) := fun n => scheduled_congr hs (sameSchedule_waitUntil s n)
  cases c with
  | identify p dest pl | readDevice p dest pl | readSummary p dest pl | readScan p dest pl | readOutputs p dest pl =>
    exact upholds_plain hexec Kept.refl
  | readLine p dest pl | readAmp p dest pl | readProfile p dest pl =>
    exact upholds_operands hexec fun _ _ _ _ => .refl _
  | status p dest pl => exact upholds_plain hexec fun u => .of_conds
  | poll p dest pl => exact upholds_operands hexec fun m u _ _ => (kept_pollAct m u).upholds
  | setLine p dest pl order => exact upholds_operands hexec fun c u _ _ => upholds_setLineAct order c u
  | setAmp p dest pl order => exact upholds_operands hexec fun c u _ _ => upholds_applySetAmp c order
  | setAmpWide p dest pl => exact upholds_operands hexec fun c u _ _ => upholds_applySetAmpWide c
  | setProfile p dest pl => exact upholds_operands hexec fun c u _ _ => upholds_applySetProfile c
  | setLevels p dest pl | setGroups p dest pl => exact upholds_operands hexec fun _ _ _ _ => Kept.upholds .of_conds
  | setScan p dest pl => exact upholds_operands hexec fun c u _ _ => (kept_applySetScan c u).upholds
  | setPilot p dest pl order => exact upholds_operands hexec fun c u _ _ => (kept_applySetPilot c.1 order u).upholds
  | setEarth p dest pl => exact upholds_operands hexec fun c u _ _ => (kept_applySetEarth c u).upholds
  | setOutput p dest pl => exact upholds_operands hexec fun c u _ _ => (kept_applySetOutput c u).upholds
  | learn p dest pl => exact upholds_operands hexec fun c u _ hu => upholds_learnAct c (hu (by decide))
  | abortLearn p dest pl => exact upholds_operands hexec fun l u _ _ => upholds_abortLearnAct l u
  | testInject p dest pl =>
    refine upholds_operands hexec fun c u hc _ => ?_
    obtain ⟨hsub, hvoted⟩ := parseTestInject_some hc
    exact upholds_testInjectAct c u hsub hvoted
  | clearLatch p dest pl =>
    exact upholds_anyAddress hexec fun u => upholds_parsed fun xs _ => (kept_clearLatchAct xs u).upholds
  | clearMinmax p dest pl => exact upholds_operands hexec fun ls u _ _ => (kept_clearMinmaxAct ls u).upholds
  | emergency p dest pl =>
    exact upholds_anyAddress hexec fun u => upholds_parsed fun zs _ => (kept_emergencyAct zs u).upholds
  | freeze p dest pl | unfreeze p dest pl =>
    exact upholds_anyAddress hexec fun u => upholds_noPayload _ (Kept.upholds .of_conds)
  | saveImage p dest pl => exact upholds_plain hexec kept_saveImageAct
  | restart p dest pl =>
    exact upholds_next hexec (upholds_deliver _ _ _ _ _
      (fun u _ => upholds_noPayload _ (kept_restartUnitAct u).upholds) (upholds_restartMultiAct pl))
  | unknownKind p dest kind pl =>
    refine upholds_next hexec ?_
    split
    · exact .refl s
    · exact upholds_deliver _ _ _ _ _ (fun u _ => .refl u) .refl
  | frameDropped p why | frameGapTimeout p | receiveOverrun p dest kind | frameStart p | frameIgnored p dest kind =>
    refine upholds_next hexec ?_
    split
    · exact hport _ _
    · exact .refl s
  | replyBegin p =>
    refine upholds_next hexec ?_
    split
    · split
      · exact .refl s
      · exact ((wait _).trans (kept_setPort ..)).upholds
    · exact .refl s
  | replySent p =>
    refine upholds_next hexec ?_
    split
    · next f hf =>
      have hdue : Kept s { s with boot := { s.boot with restartDue := s.boot.dueAfter f } } := .of_conds
      exact (hdue.trans (kept_setPort ..)).upholds
    · exact .refl s
  | softRestart =>
    refine upholds_next hexec ?_
    split
    · exact upholds_softRestart ..
    · exact .refl s
  | powerOn | powerLoss => exact upholds_next hexec (upholds_hardStop s _)
  | pinReset =>
    refine upholds_next hexec ?_
    split
    · exact .refl s
    · exact upholds_hardStop s _
  | resetRelease addr baud source =>
    refine upholds_next hexec ?_
    split
    · next cause hp => exact upholds_release cause _ hs (by simp [State.poweredUp, hp])
    · exact .refl s
    · exact .refl s
  | loadStepEnd ack =>
    refine upholds_next hexec ?_
    split
    · next cause _ hload => exact upholds_finishLoad cause _ hs hload
    · exact .refl s
  | imageWriteEnd ack readBack =>
    refine upholds_next hexec ?_
    split
    · split
      · exact (kept_saveDone s _).upholds
      · exact (kept_saveFailed s _).upholds
    · exact .refl s
  | evacPinChange low =>
    refine upholds_next hexec ?_
    split
    · exact .refl s
    · exact Kept.upholds .of_conds
  | evacFilterExpiry =>
    refine upholds_next hexec ?_
    split
    · next since hsince =>
      have hset : ∀ v : State, Kept v { v with evac := { v.evac with since := none, filtered := v.evac.pinLow } } :=
        fun _ => .of_conds
      exact ((wait _).trans ((hset _).trans ((kept_announceEntries ..).trans (kept_reevalOutputs _)))).upholds
    · exact .refl s
  | settleBlockEnd =>
    refine upholds_next hexec ?_
    split
    · split
      · exact .refl s
      · exact Kept.upholds .of_conds
    · exact .refl s
  | sampleBlockEnd v i prog th su order =>
    refine upholds_next hexec ?_
    split
    · next m hm =>
      split
      · exact (wait _).upholds.trans
          (upholds_endSampleBlock (waitScheduled _) hm _ (subject_sampleBlock ..) th su order)
      · exact .refl s
    · exact .refl s
  | periodCountComplete count =>
    refine upholds_next hexec ?_
    split
    · split
      · split
        · exact Kept.upholds .of_conds
        · exact .refl s
      all_goals exact .refl s
    · exact .refl s
  | periodCountGiveUp =>
    refine upholds_next hexec ?_
    split
    · split
      · exact Kept.upholds .of_conds
      all_goals exact .refl s
    · exact .refl s
  | periodWaitExpiry =>
    refine upholds_next hexec ?_
    split
    · exact ((wait _).trans (kept_startRound _)).upholds
    · exact .refl s
  | soakEnd bias =>
    refine upholds_next hexec ?_
    split
    · exact ((wait _).trans (kept_endSoak ..)).upholds
    all_goals exact .refl s
  | leakageBlockEnd code =>
    refine upholds_next hexec ?_
    split
    · next t0 ht => exact ((wait _).trans (kept_endLeakageBlock (waitScheduled _) ht (t0.addBlock code.val) rfl)).upholds
    all_goals exact .refl s
  | pulsePhaseExpiry o | freezeExpiry =>
    refine upholds_next hexec ?_
    split
    · exact Kept.upholds .of_conds
    · exact .refl s

/-- A step upholds the invariants: with an empty queue nothing they speak of moves, else the front command is carried out. -/
theorem step_upholds (hs : Scheduled s) (hstep : step s = .next t) : Upholds s t := by
  unfold step at hstep
  split at hstep
  · exact upholds_next hstep (Kept.upholds .of_conds)
  · exact (Kept.upholds .of_conds).trans (exec_upholds _ (scheduled_congr hs .of_parts) hstep)

end

/-- Settles O6, an inductive invariant: every act on a record leaves it well formed, settled under its rule and no richer in
injections; a rule that changes re-evaluates its conditions, and a subject set OFF is cleared. -/
theorem stepKeepsConditionsJudged : Obligations.StepKeepsConditionsJudged := by
  unfold Obligations.StepKeepsConditionsJudged
  intro s t hs h hstep
  exact (step_upholds hs hstep).judged h

/-- Settles O7, an inductive invariant: a line that loses its reference or begins to learn has HIGHZ and LOWZ emptied, and
neither takes a vote from then on. -/
theorem stepKeepsReferenceGate : Obligations.StepKeepsReferenceGate := by
  unfold Obligations.StepKeepsReferenceGate
  intro s t hs h hstep
  exact (step_upholds hs hstep).gated h

end Sys2Proof.Machine.Judge
end

section
/-! SUPPORT. One vote on a condition, and the obligation that says what it enters, moves, pushes and hands over (R109 to R113,
R127). -/

namespace Sys2Proof.Machine.Judge

open Converter Scan

/-! ## The state a window gives (R111, Table 7.3) -/

theorem nextCondState_clear (k b : Nat) :
    nextCondState k .clear b = if b = 0 then .clear else if b < k then .pending else .active := rfl

theorem nextCondState_pending (k b : Nat) :
    nextCondState k .pending b = if b = 0 then .clear else if b < k then .pending else .active := rfl

/-! ## What a vote writes (R110 to R113) -/

section
variable (s : State)

/-- A turn writes the record, and FOUT where the condition enters ACTIVE or leaves it. -/
theorem turnTo_eq (id : CondId) (c : Cond) :
    turnTo s id c = { s with
      recs := s.recs.setCond id c
      fout := if decide ((s.cond id).state = .active) = decide (c.state = .active) then s.fout
        else (s.setCond id c).tellOutputs.fout } := by
  unfold turnTo
  by_cases h : decide ((s.cond id).state = .active) = decide (c.state = .active)
  · rw [if_neg (not_not.mpr h), if_pos h]
    rfl
  · rw [if_pos h, if_neg h]
    rfl

theorem pushes_eq (c : Cond) (judged : Vote) :
    pushes c judged = decide ((judged = .bad ∨ c.injection.isSome = true) ∧ c.state = .clear) := by
  simp only [pushes, Bool.decide_and, Bool.decide_or, Bool.decide_eq_true]

/-- The push that follows a vote leaves SEQ as the statement gives it. -/
theorem pushed_afterVote (u : State) (id : CondId) (judged : Vote) (hseq : u.seq = s.seq) :
    (if pushes (s.cond id) judged then u.push id.subject else u) = { u with seq := s.seqAfterVote id judged } := by
  have hpush : ∀ e : RingEntry, u.push e.subject = { u with seq := s.seq.pushed e } := fun e => by
    rw [push_entry, hseq]
  rw [pushes_eq]
  unfold State.seqAfterVote
  by_cases h : (judged = .bad ∨ (s.cond id).injection.isSome = true) ∧ (s.cond id).state = .clear
  · rw [if_pos (decide_eq_true h), if_pos h]
    cases id.subject with
    | line l => exact hpush (.line l)
    | amp a => exact hpush (.amp a)
    | dev => exact hseq ▸ rfl
  · rw [if_neg (by simpa using h), if_neg h, ← hseq]

theorem sameResults_setCond (id : CondId) (c : Cond) : SameResults s { s with recs := s.recs.setCond id c } := by
  obtain ⟨hline, hamp, href, hearth, hminMax, -⟩ := s.recs.setCond_rest id c
  exact ⟨hline, hamp, href, hearth, hminMax⟩

theorem maskedRun_setCond (r : Records) (id : CondId) (c : Cond) : (r.setCond id c).maskedRun = r.maskedRun := by
  obtain ⟨-, -, -, -, -, hmasked⟩ := r.setCond_rest id c
  exact hmasked

/-- A vote on any condition but NOPILOT is the turn of its record, with its notice and its push. -/
theorem vote_other {id : CondId} (h : ∀ a, id ≠ .amp a .nopilot) (judged : Vote) (value : Option Nat) :
    s.vote id judged value
      = { turnTo s id (s.voted id judged) with
          nq := s.nqAfterVote id judged value, seq := s.seqAfterVote id judged } := by
  rw [vote_eq, afterMove_other h]
  exact pushed_afterVote s _ id judged (by rw [turnTo_eq])

end

/-- Settles O52: a vote is the turn of one record to what the vote makes of it, FOUT told at an entry into ACTIVE and an exit
from it, the notice handed over and the subject pushed. -/
theorem voteIsEntered : Obligations.VoteIsEntered := by
  unfold Obligations.VoteIsEntered
  refine ⟨fun k b => ⟨nextCondState_clear k b, nextCondState_pending k b, rfl⟩, ?_⟩
  intro s id judged value hid
  refine ⟨s.recs.setCond id (s.voted id judged), ?_, fun j => s.recs.cond_setCond id j _,
    sameResults_setCond s id _, maskedRun_setCond ..⟩
  rw [vote_other s hid, turnTo_eq]
  rfl

end Sys2Proof.Machine.Judge
end

section
/-! SUPPORT. A request that a running part takes: its act leaves the receiver hunting and the port answers, whatever the act
writes elsewhere; with the obligations about TEST-INJECT and CLEAR-LATCH (R121, R122, R126). -/

namespace Sys2Proof.Machine.Judge

open Converter Scan

/-! ## A taken request (R156 to R158) -/

/-- A request for this part is answered in the state its act leads to, its receiver hunting. -/
theorem deliver_answered {s t : State} {p : Port} {dest kind : Byte} {payload : List Byte}
    {unit : State → State × Answer} {multi : State → State} {a : Answer} (h : s.takes p dest)
    (hlen : payload.length ≤ 200) (hkind : frozenKind kind = false) (hact : unit (s.hunt p) = (t.hunt p, a)) :
    s.deliver p dest kind payload unit multi
      = t.answered p kind { status := a.status, view := .live, content := a.content } a.restarts := by
  have hview : (s.hunt p).viewFor kind = .live := by simp [State.viewFor, hkind]
  rw [s.deliver_of_takes p dest kind payload unit multi h hlen, hact, hview]
  exact t.holdFrame_hunt p kind .live a

/-- A request whose payload parses. -/
theorem deliver_parsed {α : Type} {s t : State} {p : Port} {dest kind : Byte} {payload : List Byte} {x : Option α} {y : α}
    {act : α → State → State × Answer} {multi : State → State} {a : Answer} (h : s.takes p dest)
    (hlen : payload.length ≤ 200) (hx : x = some y) (hkind : frozenKind kind = false)
    (hact : act y (s.hunt p) = (t.hunt p, a)) :
    s.deliver p dest kind payload (fun u => parsed x u act) multi
      = t.answered p kind { status := a.status, view := .live, content := a.content } a.restarts :=
  deliver_answered h hlen hkind (by rw [hx, parsed, hact])

/-! ## Acts that write records alone -/

/-- Acts that each write the records alone, one after another. -/
theorem foldl_recs {α : Type} {f : State → α → State} {g : Records → α → Records}
    (h : ∀ u x, f u x = { u with recs := g u.recs x }) (xs : List α) (s : State) :
    xs.foldl f s = { s with recs := xs.foldl g s.recs } := by
  induction xs generalizing s with
  | nil => rfl
  | cons x xs ih =>
    rw [List.foldl_cons, List.foldl_cons, h, ih]

/-- What CEVAL writes leaves the results, the figures and the masked run counts. -/
theorem sameResults_of_judging {s u : State} (h : Judging s u) : SameResults s u ∧ u.recs.maskedRun = s.recs.maskedRun := by
  rw [h.eq]
  exact ⟨⟨rfl, rfl, rfl, rfl, rfl⟩, rfl⟩

/-! ## TEST-INJECT (R126) -/

/-- The records after an accepted TEST-INJECT. -/
def injectedRecords (c : Injection) (r : Records) : Records :=
  let bare := (condsOf c.subject).foldl (fun r id => r.setCond id { r.cond id with injection := none }) r
  if c.count = 0 then bare
  else bare.setCond c.cond { bare.cond c.cond with injection := some (min maxInjection c.count) }

theorem applyInject_eq (c : Injection) (s : State) : applyInject c s = { s with recs := injectedRecords c s.recs } := by
  have hdrop : s.dropInjections c.subject
      = { s with
          recs := (condsOf c.subject).foldl (fun r id => r.setCond id { r.cond id with injection := none }) s.recs } :=
    foldl_recs (f := fun u id => u.setCond id { u.cond id with injection := none }) (fun _ _ => rfl) _ s
  unfold applyInject injectedRecords
  rw [hdrop]
  by_cases hcount : c.count = 0
  · simp only [hcount, if_true]
  · simp only [hcount, if_false]
    rfl

theorem testInjectAct_off {c : Injection} {s : State} (h : s.isOff c.subject = true) :
    testInjectAct c s = (s, .bare .refusedState) := if_pos h

/-- TEST-INJECT's decision on a subject that is not OFF does not look at the port its frame came in on. -/
theorem testInjectAct_hunt {c : Injection} {s : State} (p : Port) (h : s.isOff c.subject = false) :
    testInjectAct c (s.hunt p)
      = (({ s with recs := injectedRecords c s.recs } : State).hunt p,
          .full (doneOr (decide (16 < c.count)))
            (.injection c.subject (if c.count = 0 then none else some (c.cond, min 16 c.count)))) := by
  have hon : (s.hunt p).isOff c.subject = false := by rw [← h]; cases p <;> rfl
  rw [testInjectAct, if_neg (by rw [hon]; exact Bool.false_ne_true), applyInject_eq]
  cases p <;> rfl

/-- Settles O41: an injection writes the records of its subject's conditions and nothing else but the port. -/
theorem testInjectArmsOneCondition : Obligations.TestInjectArmsOneCondition := by
  unfold Obligations.TestInjectArmsOneCondition
  intro s p dest pl c htakes hlen hparse
  obtain ⟨hsub, hvoted⟩ := parseTestInject_some hparse
  refine ⟨hsub, hvoted, fun hoff => ?_, fun hon => ?_⟩
  · have hhunt : (s.hunt p).isOff c.subject = true := by rw [← hoff]; cases p <;> rfl
    exact congrArg Host.Outcome.next (deliver_parsed htakes hlen hparse rfl (testInjectAct_off hhunt))
  · have hjudging := judging_applyInject c s
    have hcond := cond_applyInject c s hsub
    rw [applyInject_eq] at hjudging
    obtain ⟨hresults, hmasked⟩ := sameResults_of_judging hjudging
    refine ⟨injectedRecords c s.recs, ?_, hresults, hmasked, fun id => ?_⟩
    · refine (congrArg Host.Outcome.next (deliver_parsed htakes hlen hparse rfl (testInjectAct_hunt p hon))).trans ?_
      by_cases hcount : c.count = 0
      · simp [Answer.full, doneOr, hcount]
      · simp [Answer.full, doneOr, hcount]
    · rw [applyInject_eq] at hcond
      refine (hcond id).trans ?_
      unfold Injection.left
      by_cases hid : id = c.cond <;> by_cases hcount : c.count = 0 <;> simp [hid, hcount]

/-! ## CLEAR-LATCH (R121, R122) -/

/-- The records with the latches of the conditions listed cleared where they are not ACTIVE. -/
def unlatchedRecords (r : Records) (ids : List CondId) : Records :=
  ids.foldl (fun r id => if (r.cond id).state = .active then r else r.setCond id { r.cond id with latch := false }) r

/-- A state with the latches of the subjects listed cleared and FOUT told. -/
def latchesCleared (xs : List Subject) (s : State) : State :=
  ({ s with recs := unlatchedRecords s.recs (xs.flatMap condsOf) } : State).tellOutputs

theorem foldl_clearLatch (ids : List CondId) (s : State) :
    ids.foldl State.clearLatch s = { s with recs := unlatchedRecords s.recs ids } :=
  foldl_recs (fun u id => by
    by_cases h : (u.recs.cond id).state = .active
    · rw [if_pos h]
      exact if_pos h
    · rw [if_neg h]
      exact if_neg h) ids s

theorem applyClearLatch_eq (xs : List Subject) (s : State) : applyClearLatch xs s = latchesCleared xs s := by
  rw [applyClearLatch, foldl_clearLatch, State.reevalOutputs_eq_tellOutputs]
  rfl

/-- CLEAR-LATCH's decision does not look at the port its frame came in on. -/
theorem clearLatchAct_hunt (xs : List Subject) (s : State) (p : Port) :
    clearLatchAct xs (s.hunt p)
      = ((latchesCleared xs s).hunt p,
          .full .done (.latches (xs.map fun x =>
            (x, ((condsOf x).filter fun id => ((latchesCleared xs s).cond id).latch).map CondId.kind)))) := by
  rw [clearLatchAct, applyClearLatch_eq]
  cases p <;> rfl

theorem cond_latchesCleared (xs : List Subject) (s : State) (id : CondId) :
    (latchesCleared xs s).cond id
      = if id.subject ∈ xs ∧ (s.cond id).state ≠ .active then { s.cond id with latch := false } else s.cond id := by
  have hcond := cond_clearLatches s (xs.flatMap condsOf) id
  have hmem : id ∈ xs.flatMap condsOf ↔ id.subject ∈ xs := by simp [mem_condsOf]
  rw [foldl_clearLatch, unlatched] at hcond
  refine hcond.trans ?_
  by_cases hid : id.subject ∈ xs
  · rw [if_pos (hmem.mpr hid)]
    simp [hid]
  · rw [if_neg (mt hmem.mp hid), if_neg fun h => hid h.1]

/-- Settles O42: CLEAR-LATCH clears the quiet latches of the subjects named and tells FOUT, however it is addressed. -/
theorem clearLatchClearsQuietLatches : Obligations.ClearLatchClearsQuietLatches := by
  unfold Obligations.ClearLatchClearsQuietLatches
  intro s p dest pl xs hlen hparse
  have hjudging := judging_clearLatches s (xs.flatMap condsOf)
  rw [foldl_clearLatch] at hjudging
  obtain ⟨⟨hline, hamp, href, hearth, hminMax⟩, hmasked⟩ := sameResults_of_judging hjudging
  refine ⟨latchesCleared xs s, fun htakes => ?_, fun hmulti => ?_, rfl, ⟨hline, hamp, href, hearth, hminMax⟩, hmasked,
    cond_latchesCleared xs s, rfl⟩
  · exact congrArg Host.Outcome.next (deliver_parsed htakes hlen hparse rfl (clearLatchAct_hunt xs s p))
  · have hact : (parsed (parseClearLatch pl) (s.hunt p) clearLatchAct).1
        = (latchesCleared xs s).setPort p { s.port p with inFrame := false } := by
      rw [hparse, parsed, clearLatchAct_hunt]
      cases p <;> rfl
    exact congrArg Host.Outcome.next ((s.deliver_of_takesMulti p dest 0x44 pl _ _ hmulti rfl hlen).trans hact)

end Sys2Proof.Machine.Judge
end

section
/-! SUPPORT. What the emptying of HIGHZ and LOWZ writes, the payloads of LEARN and ABORT-LEARN, and the obligation about the
two (R118, R131, R132, R139). -/

namespace Sys2Proof.Machine.Judge

open Converter Scan

/-! ## The port after a request (R156, R158) -/

theorem holds_answered (s : State) (p : Port) (kind : Byte) (reply : Reply) :
    (s.answered p kind reply none).holds p kind reply := by
  cases p <;> exact ⟨rfl, rfl⟩

theorem sameElsewhere_answered (s : State) (p : Port) (kind : Byte) (reply : Reply) (restarts : Option RestartCopy) :
    SameElsewhere s (s.answered p kind reply restarts) p := by
  have hport : ∀ q, q ≠ p → (s.answered p kind reply restarts).port q = s.port q := fun q hq =>
    s.port_setPort_ne p q _ hq
  cases p <;> exact ⟨rfl, rfl, rfl, rfl, rfl, rfl, rfl, hport, rfl, rfl, rfl, rfl⟩

/-- An answer writes the link alone, and leaves the change counter. -/
theorem answered_link (s : State) (p : Port) (kind : Byte) (reply : Reply) (restarts : Option RestartCopy) :
    ∃ link, s.answered p kind reply restarts = { s with link := link } ∧ link.changeCounter = s.link.changeCounter := by
  cases p <;> exact ⟨_, rfl, rfl⟩

/-! ## One emptying (R118) -/

section
variable (s : State) (id : CondId)

/-- The CLEAR notice of an emptied condition. -/
def clearNotice : Notice := { s.announcement id (s.noticeLevel id.subject (.cond id.kind)) with event := .clear }

/-- A notice queue that has been handed the CLEAR notice of a condition, where it was ACTIVE on a reporting subject. -/
def clearHanded (q : NoticeQueue) : NoticeQueue :=
  if s.counted id.subject = true ∧ (s.cond id).state = .active then q.place (clearNotice s id) else q

theorem placeAll_clear : s.nq.placeAll (s.moveNotice id (s.cond id) .clear none none) = clearHanded s id s.nq := by
  unfold clearHanded
  by_cases hactive : (s.cond id).state = .active
  · have hchange : decide ((s.cond id).state = .active) ≠ decide (CondState.clear = .active) := by simp [hactive]
    rw [moveNotice_of_change s id _ _ _ _ hchange]
    by_cases hcounted : s.counted id.subject = true
    · rw [if_pos hcounted, if_pos (And.intro hcounted hactive)]
      rfl
    · rw [if_neg hcounted, if_neg (mt And.left hcounted)]
      rfl
  · have hquiet : decide ((s.cond id).state = .active) = decide (CondState.clear = .active) := by simp [hactive]
    rw [moveNotice_of_quiet s id _ _ _ _ hquiet, if_neg (mt And.right hactive)]
    rfl

/-- An emptying without a cause is a turn with its CLEAR notice. -/
theorem emptyCond_turn :
    s.emptyCond id none
      = { turnTo s id ((s.cond id).emptied s.seq.round) with nq := clearHanded s id s.nq } := by
  rw [emptyCond_eq, placeAll_clear]

theorem emptyCond_frame :
    s.emptyCond id none
      = { s with
          recs := (s.emptyCond id none).recs, nq := clearHanded s id s.nq, fout := (s.emptyCond id none).fout } := by
  have h := emptyCond_turn s id
  rw [turnTo_eq] at h
  rw [h]

end

/-! ## HIGHZ and LOWZ emptied (R118) -/

/-- The conditions that need a reference, in the order of Table 7.1. -/
def refConds (l : LineId) : List CondId := [.line l .highz, .line l .lowz]

/-- The notice queue after HIGHZ and LOWZ have been emptied, HIGHZ's notice first. -/
theorem clearHanded_refConds (s : State) (l : LineId) (q : NoticeQueue) :
    clearHanded s (.line l .lowz) (clearHanded s (.line l .highz) q)
      = if s.counted (.line l) then
          ((refConds l).filter fun id => decide ((s.cond id).state = .active)).foldl
            (fun q id => q.place { s.announcement id (s.noticeLevel (.line l) (.cond id.kind)) with event := .clear }) q
        else q := by
  have hsub : ∀ k, (CondId.line l k).subject = .line l := fun _ => rfl
  by_cases hcounted : s.counted (.line l) = true
  · rw [if_pos hcounted, List.foldl_filter]
    simp only [clearHanded, hsub, hcounted, true_and, refConds, List.foldl_cons, List.foldl_nil, decide_eq_true_eq]
    rfl
  · have hquiet : ∀ k q, clearHanded s (.line l k) q = q := fun _ _ => if_neg (mt And.left hcounted)
    rw [if_neg hcounted, hquiet, hquiet]

/-- From `s` HIGHZ and LOWZ of a line have been emptied: what has been written to the records, NQ and FOUT. -/
structure RefEmptied (s : State) (l : LineId) (recs : Records) (nq : NoticeQueue) (fout : Fout) : Prop where
  cond : ∀ id, recs.cond id
    = if id = .line l .highz ∨ id = .line l .lowz then (s.cond id).emptied s.seq.round else s.cond id
  nq : nq = clearHanded s (.line l .lowz) (clearHanded s (.line l .highz) s.nq)
  fout : fout = (s.movedInTurn recs.cond (refConds l)).fout
  results : SameResults s { s with recs := recs }
  maskedRun : recs.maskedRun = s.recs.maskedRun

/-- The emptying of HIGHZ and LOWZ writes the records, NQ and FOUT. -/
theorem emptyRef_writes (s : State) (l : LineId) :
    ∃ recs nq fout, s.emptyRef l = { s with recs := recs, nq := nq, fout := fout } ∧ RefEmptied s l recs nq fout := by
  let u := s.emptyCond (.line l .highz) none
  let high := (s.cond (.line l .highz)).emptied s.seq.round
  let low := (s.cond (.line l .lowz)).emptied s.seq.round
  have hu : u = { s with recs := u.recs, nq := clearHanded s (.line l .highz) s.nq, fout := u.fout } :=
    emptyCond_frame ..
  have hlow : u.cond (.line l .lowz) = s.cond (.line l .lowz) := by
    rw [cond_emptyCond, if_neg (by simp)]
  have hnq : clearHanded u (.line l .lowz) u.nq
      = clearHanded s (.line l .lowz) (clearHanded s (.line l .highz) s.nq) := by
    have hcounted : u.counted (.line l) = s.counted (.line l) := by rw [hu]; rfl
    have hnotice : clearNotice u (.line l .lowz) = clearNotice s (.line l .lowz) := by
      have hinjection := congrArg (fun c : Cond => c.injection.isSome) hlow
      simp only [clearNotice, State.announcement, hinjection]
      rw [hu]
      rfl
    have hclear : ∀ q, clearHanded u (.line l .lowz) q = clearHanded s (.line l .lowz) q := fun q =>
      if_congr (by rw [CondId.subject, hcounted, hlow]) (by rw [hnotice]) rfl
    have hqueue : u.nq = clearHanded s (.line l .highz) s.nq := by rw [hu]
    rw [hclear, hqueue]
  have hv : s.emptyRef l = { turnTo u (.line l .lowz) low with
      nq := clearHanded s (.line l .lowz) (clearHanded s (.line l .highz) s.nq) } := by
    have hround : u.seq.round = s.seq.round := by rw [hu]
    change u.emptyCond (.line l .lowz) none = _
    rw [emptyCond_turn, hnq, hlow, hround]
  have hconds := cond_emptyRef s l
  obtain ⟨hresults, hmasked⟩ := sameResults_of_judging (judging_emptyRef s l)
  refine ⟨(s.emptyRef l).recs, _, (s.emptyRef l).fout, ?_, hconds, rfl, ?_,
    ⟨hresults.lineRes, hresults.ampRes, hresults.refRes, hresults.earthRes, hresults.minMax⟩, hmasked⟩
  · rw [hv, turnTo_eq, hu]
  · have hturn : (s.emptyRef l).fout = (turnTo u (.line l .lowz) low).fout := by rw [hv]
    have hsame : SameTold (turnTo s (.line l .highz) high) u := by
      change SameTold _ (s.emptyCond (.line l .highz) none)
      rw [emptyCond_turn]
      exact ⟨rfl, rfl, rfl, fun _ => rfl, rfl, fun _ => rfl⟩
    have hnow : ∀ id, (s.emptyRef l).recs.cond id = (s.emptyRef l).cond id := fun _ => rfl
    rw [hturn, (hsame.turnTo (.line l .lowz) low).fout, refConds, movedInTurn_cons, movedInTurn_cons, hnow, hnow, hconds,
      hconds, if_pos (.inl rfl), if_pos (.inr rfl)]
    rfl

/-! ## The payloads (R132, R139, R161) -/

theorem selector_byte (items : List Item) (number : Nat) (b : Byte) (h : itemValue items number = some b.toNat) :
    selector items number 24 = if h : b.toNat < 24 then some ⟨b.toNat, h⟩ else none := by
  rw [selector, h]

theorem parseLearn_target (l m : Byte) :
    parseLearn [1, 1, l, 2, 1, m]
      = if h : l.toNat < 24 then
          some (⟨l.toNat, h⟩, max 4 (min 32 m.toNat), decide (max 4 (min 32 m.toNat) ≠ m.toNat)) else none := by
  have hitems : parseItems learnItems [1, 1, l, 2, 1, m] = some [(1, [l]), (2, [m])] := rfl
  have hline : itemValue [(1, [l]), (2, [m])] 1 = some l.toNat := by simp [itemValue, findItem, bigEndian]
  have htarget : itemValue [(1, [l]), (2, [m])] 2 = some m.toNat := by simp [itemValue, findItem, bigEndian]
  simp only [parseLearn, hitems, Option.bind_eq_bind, Option.bind_some, selector_byte _ _ _ hline, numField, htarget,
    clampNat]
  by_cases h : l.toNat < 24
  · rw [dif_pos h, dif_pos h]
    rfl
  · rw [dif_neg h, dif_neg h]
    rfl

theorem parseLearn_line (l : Byte) :
    parseLearn [1, 1, l] = if h : l.toNat < 24 then some (⟨l.toNat, h⟩, 16, false) else none := by
  have hitems : parseItems learnItems [1, 1, l] = some [(1, [l])] := rfl
  have hline : itemValue [(1, [l])] 1 = some l.toNat := by simp [itemValue, findItem, bigEndian]
  have htarget : itemValue [(1, [l])] 2 = none := rfl
  simp only [parseLearn, hitems, Option.bind_eq_bind, Option.bind_some, selector_byte _ _ _ hline, numField, htarget]
  by_cases h : l.toNat < 24 <;> simp [h]

/-! ## LEARN (R132) -/

section
variable {s : State} {l : LineId} (p : Port) (m : Nat) (clamped : Bool)

theorem learnAct_off (h : (s.line l).state = .off) :
    learnAct (l, m, clamped) (s.hunt p) = (s.hunt p, .bare .refusedState) := by
  have hhunt : ((s.hunt p).line l).state = .off := by rw [← h]; cases p <;> rfl
  exact if_pos hhunt

theorem learnAct_learning (hon : (s.line l).state ≠ .off) (h : s.learn[l].isSome = true) :
    learnAct (l, m, clamped) (s.hunt p) = (s.hunt p, .bare .refusedBusy) := by
  have hhunt : ((s.hunt p).line l).state ≠ .off := by cases p <;> exact hon
  have hlearn : (s.hunt p).learn[l].isSome = true := by cases p <;> exact h
  exact (if_neg hhunt).trans (if_pos hlearn)

/-- A LEARN accepted writes the learning record, and what emptying HIGHZ and LOWZ writes. -/
theorem learnAct_begins (hon : (s.line l).state ≠ .off) (h : s.learn[l] = none) :
    ∃ recs nq fout, RefEmptied s l recs nq fout ∧
      learnAct (l, m, clamped) (s.hunt p)
        = (({ s with
                learn := s.learn.set l (some (LearnRec.start m)), recs := recs, nq := nq, fout := fout } : State).hunt p,
            .full (doneOr clamped) (.learn l m (s.line l).zref)) := by
  have hhunt : ((s.hunt p).line l).state ≠ .off := by cases p <;> exact hon
  have hlearn : (s.hunt p).learn[l] = none := by cases p <;> exact h
  obtain ⟨recs, nq, fout, heq, hemptied⟩ := emptyRef_writes ((s.hunt p).setLearn l (some (LearnRec.start m))) l
  refine ⟨recs, nq, fout, ?_, ?_⟩
  · obtain ⟨hcond, hnq, hfout, ⟨hline, hamp, href, hearth, hminMax⟩, hmasked⟩ := hemptied
    have hsame : SameTold ((s.hunt p).setLearn l (some (LearnRec.start m))) s := by
      cases p <;> exact ⟨rfl, rfl, rfl, fun _ => rfl, rfl, fun _ => rfl⟩
    have hturns := hsame.movedInTurn (now := recs.cond) (refConds l) fun _ _ => rfl
    cases p <;> exact ⟨hcond, hnq, hfout.trans hturns.symm, ⟨hline, hamp, href, hearth, hminMax⟩, hmasked⟩
  · unfold learnAct
    dsimp only
    rw [if_neg hhunt, if_neg (by rw [hlearn]; exact Bool.false_ne_true), heq]
    cases p <;> rfl

end

/-- A state that has kept what FOUT is told of, but for the records and FOUT. -/
theorem sameTold_since {s t : State} (hclock : t.clock = s.clock) (h : SameView s t) :
    SameTold s { t with recs := s.recs, fout := s.fout } :=
  { clock := hclock, outA := congrArg Settings.outA h.cfg, outB := congrArg Settings.outB h.cfg
    counted := h.standing.counted, fout := rfl, cond := fun _ => rfl }

/-- FOUT has been told of the emptying in a state that only the port and the learning records have left since. -/
theorem outputsTold_refEmptied {s t : State} {l : LineId} {recs : Records} {nq : NoticeQueue} {fout : Fout}
    (h : RefEmptied s l recs nq fout) (hrecs : t.recs = recs) (hfout : t.fout = fout) (hclock : t.clock = s.clock)
    (hview : SameView s t) : OutputsTold s t (refConds l) := by
  unfold OutputsTold
  rw [hfout, h.fout]
  exact ((sameTold_since hclock hview).movedInTurn _ fun id _ => congrArg (Records.cond · id) hrecs).symm

/-! ## ABORT-LEARN (R139) -/

section
variable {s : State} {l : LineId} (p : Port)

theorem abortLearnAct_idle (h : s.learn[l] = none) : abortLearnAct l (s.hunt p) = (s.hunt p, .bare .refusedState) := by
  have hlearn : (s.hunt p).learn[l].isNone = true := by
    have hhunt : (s.hunt p).learn = s.learn := by cases p <;> rfl
    rw [hhunt, h]
    rfl
  exact if_pos hlearn

/-- A state in which a line's learning has been aborted. -/
def learnAborted (s : State) (l : LineId) : State :=
  { s with
    learn := s.learn.set l none
    nq := s.nq.place
      { subject := .line l, kind := .learn, event := .learnFailed, cause := some .aborted
        level := if s.lineInEmergency l then 7 else 1, round := s.seq.round, value := none
        transient := false, test := false } }

theorem failLearning_aborted (s : State) (l : LineId) : s.failLearning l .aborted = learnAborted s l := rfl

theorem abortLearnAct_learning (h : s.learn[l].isSome = true) :
    abortLearnAct l (s.hunt p) = ((learnAborted s l).hunt p, .full .done (.abortLearn l (s.line l).zref)) := by
  have hlearn : ¬(s.hunt p).learn[l].isNone = true := by
    have hhunt : (s.hunt p).learn = s.learn := by cases p <;> rfl
    rw [hhunt, Option.isNone_eq_false_iff.mpr h]
    exact Bool.false_ne_true
  rw [abortLearnAct, if_neg hlearn, failLearning_aborted]
  cases p <;> rfl

end

/-- Settles O40: LEARN begins a record and empties HIGHZ and LOWZ, ABORT-LEARN removes one with its notice, and what refuses
either changes the port alone. -/
theorem learnBeginsAndAborts : Obligations.LearnBeginsAndAborts := by
  unfold Obligations.LearnBeginsAndAborts
  refine ⟨parseLearn_target, parseLearn_line, fun s p dest pl htakes hlen =>
    ⟨fun l m clamped hparse => ⟨fun hoff => ?_, fun hon hbusy => ?_, fun hon hidle => ?_⟩,
      fun l hparse => ⟨fun hidle => ?_, fun hbusy => ?_⟩⟩⟩
  · exact congrArg Host.Outcome.next (deliver_parsed htakes hlen hparse rfl (learnAct_off p m clamped hoff))
  · exact congrArg Host.Outcome.next (deliver_parsed htakes hlen hparse rfl (learnAct_learning p m clamped hon hbusy))
  · obtain ⟨recs, nq, fout, hemptied, hact⟩ := learnAct_begins p m clamped hon hidle
    have hexec := deliver_parsed (kind := 0x41) (multi := id) htakes hlen hparse rfl hact
    let u : State :=
      { s with learn := s.learn.set l (some (LearnRec.start m)), recs := recs, nq := nq, fout := fout }
    let reply : Reply := { status := doneOr clamped, view := .live, content := .learn l m (s.line l).zref }
    have helsewhere : SameElsewhere s (u.answered p 0x41 reply none) p :=
      sameElsewhere_trans (t := u) ⟨rfl, rfl, rfl, rfl, rfl, rfl, rfl, fun q _ => by cases q <;> rfl,
        by cases p <;> rfl, rfl, rfl, rfl⟩ (sameElsewhere_answered u p 0x41 reply none)
    obtain ⟨hline, hamp, href, hearth, hminMax⟩ := hemptied.results
    have hholds := holds_answered u p 0x41 reply
    obtain ⟨link, hlink, hcounter⟩ := answered_link u p 0x41 reply none
    rw [hlink] at helsewhere hholds
    exact ⟨{ u with link := link }, congrArg Host.Outcome.next (hexec.trans hlink), rfl, hemptied.cond,
      hemptied.nq.trans (clearHanded_refConds s l s.nq),
      outputsTold_refEmptied hemptied rfl rfl rfl ⟨rfl, rfl, rfl, rfl⟩,
      hholds, helsewhere, ⟨hline, hamp, href, hearth, hminMax⟩, hemptied.maskedRun, rfl, rfl, rfl, rfl, rfl, rfl, rfl,
      hcounter⟩
  · exact congrArg Host.Outcome.next (deliver_parsed htakes hlen hparse rfl (abortLearnAct_idle p hidle))
  · exact congrArg Host.Outcome.next (deliver_parsed htakes hlen hparse rfl (abortLearnAct_learning p hbusy))

end Sys2Proof.Machine.Judge
end

section
/-! SUPPORT. What the end of an image write leaves in the memory, in CONFIG and in the outputs, and the obligation about it
(R129, R171). -/

namespace Sys2Proof.Machine.Judge

open Converter Scan

/-! ## The memory (R166, R171) -/

/-- A byte of what has been written. -/
theorem readByte_written {mem : List Host.Cell} (h : (mem.map Prod.fst).Pairwise (· < ·)) {bytes : List Byte} {a : Nat}
    (ha : a < bytes.length) : readByte (writeBytes mem 0 bytes) a = bytes[a] := by
  have hin : 0 ≤ a ∧ a < 0 + bytes.length := ⟨a.zero_le, by omega⟩
  rw [readByte_writeBytes mem 0 a bytes h, if_pos hin, Nat.sub_zero, List.getElem?_eq_getElem ha, Option.getD_some]

theorem readByte_beyond {mem : List Host.Cell} (h : (mem.map Prod.fst).Pairwise (· < ·)) {bytes : List Byte} {a : Nat}
    (ha : bytes.length ≤ a) : readByte (writeBytes mem 0 bytes) a = readByte mem a := by
  have hout : ¬(0 ≤ a ∧ a < 0 + bytes.length) := by omega
  rw [readByte_writeBytes mem 0 a bytes h, if_neg hout]

/-- A write that did not end well spoils the stored CRC at most. -/
theorem readByte_spoilt {mem : List Host.Cell} (h : (mem.map Prod.fst).Pairwise (· < ·)) (image : List Byte)
    {bytes : List Byte} {a : Nat} (ha : a ≠ crcAddress) :
    readByte (spoiltMemory mem image bytes) a = readByte (writeBytes mem 0 bytes) a := by
  unfold spoiltMemory
  dsimp only
  split
  · rfl
  · rw [readByte_writeByte _ _ _ _ (rising_writeBytes _ _ _ h), if_neg ha]

/-- The header of an image is longer than the address of its CRC. -/
theorem crcAddress_lt_image (c : Settings) : crcAddress < c.image.length := by
  simp only [Settings.image, byte2, crcAddress, List.length_append, List.length_cons, List.length_nil]
  omega

/-! ## CONFIG (R111, R129, R150) -/

theorem turnTo_frame (s : State) (id : CondId) (c : Cond) :
    turnTo s id c = { s with recs := s.recs.setCond id c, fout := (turnTo s id c).fout } := by
  rw [turnTo_eq]

/-- CONFIG after it has left ACTIVE. -/
def configLeft (s : State) : Cond := { s.cond (.dev .config) with state := .clear, since := s.seq.round }

/-- CONFIG leaves ACTIVE with its notice, its latch kept. -/
theorem moveConfig_clear {s : State} (h : (s.cond (.dev .config)).state = .active) :
    s.moveCond (.dev .config) .clear none none false
      = { s with
          recs := s.recs.setCond (.dev .config) (configLeft s)
          nq := s.nq.place
            { s.announcement (.dev .config) s.cfg.levels[Kind.config.index] with event := .clear, test := false }
          fout := (turnTo s (.dev .config) (configLeft s)).fout } := by
  have hmove := moveCond_setCond s (.dev .config) (c0 := s.cond (.dev .config))
    (c1 := { s.cond (.dev .config) with injection := none }) .clear none none rfl rfl
  have hmoved : (s.cond (.dev .config)).move .clear s.seq.round = configLeft s := by simp [Cond.move, configLeft]
  have hchange : decide ((s.cond (.dev .config)).state = .active) ≠ decide (CondState.clear = .active) := by simp [h]
  have hleft : (s.cond (.dev .config)).state ≠ .clear := by rw [h]; decide
  have hnotice : s.moveNotice (.dev .config) { s.cond (.dev .config) with injection := none } .clear none none
      = [{ s.announcement (.dev .config) s.cfg.levels[Kind.config.index] with event := .clear, test := false }] :=
    moveNotice_of_change s _ _ _ _ _ hchange
  rw [setCond_cond, if_neg hleft, hmoved, hnotice, turnTo_frame] at hmove
  exact hmove

/-- FOUT has been told of one condition's turn. -/
theorem outputsTold_turn {s t : State} {id : CondId} (hfout : t.fout = (turnTo s id (t.cond id)).fout)
    (hclock : t.clock = s.clock) (hview : SameView s t) : OutputsTold s t [id] := by
  have hturn : (turnTo s id (t.cond id)).fout = (s.movedInTurn t.cond [id]).fout := rfl
  unfold OutputsTold
  rw [hfout, hturn]
  exact ((sameTold_since hclock hview).movedInTurn [id] fun _ _ => rfl).symm

/-- What the end of an image write makes of CONFIG, NQ and FOUT: where the write has `cleared` CONFIG it leaves ACTIVE. -/
structure ConfigTurned (s : State) (cleared : Prop) [Decidable cleared] (recs : Records) (nq : NoticeQueue) (fout : Fout) :
    Prop where
  others : ∀ id, id ≠ .dev .config → recs.cond id = s.cond id
  config : recs.cond (.dev .config)
    = if cleared then configLeft s else s.cond (.dev .config)
  nq : nq = if cleared then
      s.nq.place { s.announcement (.dev .config) s.cfg.levels[Kind.config.index] with event := .clear, test := false }
    else s.nq
  fout : fout = (turnTo s (.dev .config) (recs.cond (.dev .config))).fout
  results : SameResults s { s with recs := recs }
  maskedRun : recs.maskedRun = s.recs.maskedRun

theorem configTurned_stays (s : State) {cleared : Prop} [Decidable cleared] (h : ¬cleared) :
    ConfigTurned s cleared s.recs s.nq s.fout where
  others _ _ := rfl
  config := (if_neg h).symm
  nq := (if_neg h).symm
  fout := congrArg State.fout (turnTo_cond s (.dev .config)).symm
  results := ⟨rfl, rfl, rfl, rfl, rfl⟩
  maskedRun := rfl

/-- An image write that ends well writes the memory and the save status, and clears an ACTIVE CONFIG. -/
theorem saveDone_writes (s : State) (image : List Byte) :
    ∃ recs nq fout, s.saveDone image
        = { s with
            boot := { s.boot with save := .done, saveCopy := none }
            memory := writeBytes s.memory 0 image, recs := recs, nq := nq, fout := fout }
      ∧ ConfigTurned s ((s.cond (.dev .config)).state = .active) recs nq fout := by
  by_cases hactive : (s.cond (.dev .config)).state = .active
  · let v : State :=
      { s with memory := writeBytes s.memory 0 image, boot := { s.boot with save := .done, saveCopy := none } }
    have hsame : SameTold s v := ⟨rfl, rfl, rfl, fun _ => rfl, rfl, fun _ => rfl⟩
    have hcond := s.recs.cond_setCond (.dev .config) (x := configLeft s)
    have hsave : s.saveDone image = v.moveCond (.dev .config) .clear none none false := if_pos hactive
    refine ⟨s.recs.setCond (.dev .config) (configLeft s), _, (turnTo v (.dev .config) (configLeft s)).fout, ?_,
      fun id hid => ?_, ?_, (if_pos hactive).symm, ?_, sameResults_setCond s _ _, maskedRun_setCond ..⟩
    · rw [hsave]
      exact moveConfig_clear (s := v) hactive
    · rw [hcond, if_neg hid]
      rfl
    · rw [hcond, if_pos rfl, if_pos hactive]
    · rw [hcond, if_pos rfl]
      exact (hsame.turnTo (.dev .config) (configLeft s)).fout
  · exact ⟨s.recs, s.nq, s.fout, if_neg hactive, configTurned_stays s hactive⟩

/-- Settles O47: the memory is what the write and, where it failed, the spoiling of its CRC leave; CONFIG turns only at a write
that ended well. -/
theorem imageWriteEnds : Obligations.ImageWriteEnds := by
  unfold Obligations.ImageWriteEnds
  intro s ack readBack copy hsave hcopy hwf image well config
  obtain ⟨hrising, -⟩ := (Memory.wf_iff s.memory).mp hwf
  have hheader : crcAddress < image.length := crcAddress_lt_image copy
  have hexec : exec (.imageWriteEnd ack readBack) s = .next (if well then s.saveDone image else s.saveFailed image) := by
    change execImageWriteEnd ack readBack s = _
    rw [execImageWriteEnd, hsave, hcopy]
  clear_value image
  by_cases hwell : well
  · obtain ⟨recs, nq, fout, hdone, hothers, hconfig, hnq, hfout, ⟨hline, hamp, href, hearth, hminMax⟩, hmasked⟩ :=
      saveDone_writes s image
    have hand : (well ∧ config.state = .active) ↔ (s.cond (.dev .config)).state = .active :=
      ⟨And.right, fun h => ⟨hwell, h⟩⟩
    rw [if_pos hwell, hdone] at hexec
    refine ⟨_, hexec, ?_, fun _ => rfl, fun hnot => absurd hwell hnot, fun a ha _ => ?_,
      fun a ha => readByte_beyond hrising ha, hothers, ?_, ?_, outputsTold_turn hfout rfl ⟨rfl, rfl, rfl, rfl⟩,
      ⟨hline, hamp, href, hearth, hminMax⟩, hmasked⟩
    · rw [if_pos hwell, if_pos hwell]
    · rw [if_pos hwell]
      exact readByte_written hrising ha
    · exact hconfig.trans (if_congr hand.symm rfl rfl)
    · exact hnq.trans (if_congr hand.symm rfl rfl)
  · let bytes := (List.range image.length).map (Config.partialByte s.freeCount)
    have hlength : bytes.length = image.length := by simp [bytes]
    obtain ⟨hothers, hconfig, hnq, hfout, -, -⟩ :=
      configTurned_stays s (cleared := well ∧ config.state = .active) fun h => hwell h.1
    rw [if_neg hwell] at hexec
    refine ⟨_, hexec, ?_, fun h => absurd h hwell, fun _ => spoiltMemory_cases s.memory image bytes hrising,
      fun a ha hor => ?_, fun a ha => ?_, hothers, hconfig, hnq,
      outputsTold_turn hfout rfl ⟨rfl, rfl, rfl, rfl⟩,
      ⟨rfl, rfl, rfl, rfl, rfl⟩, rfl⟩
    · rw [if_neg hwell, if_neg hwell]
      rfl
    · rw [if_neg hwell]
      refine (readByte_spoilt hrising image (hor.resolve_left hwell)).trans ?_
      rw [readByte_written hrising (ha.trans_eq hlength.symm)]
      simp [bytes]
    · exact readByte_spoiltMemory s.memory image bytes hrising (hheader.trans_eq hlength.symm) a (hlength.trans_le ha)

end Sys2Proof.Machine.Judge
end

section
/-! SUPPORT. The start-up that ends the release of reset and the Load step: the state up to EBRG's first choice written out,
what every start-up leaves and what it keeps of a stopped part, and the obligation about the two commands (R155, R156, R167
to R169). -/

namespace Sys2Proof.Machine.Startup

open Converter Leakage Judge

/-! ## The Clear step and its notices (R129, R143, R169) -/

/-- CONFIG as a start-up on the defaults after a failed load raises it. -/
def configRaised : Cond := { Cond.cleared with state := .active, latch := true }

/-- The records when the Clear step has ended. -/
def startRecords (config : Bool) : Records :=
  if config then Records.cleared.setCond (.dev .config) configRaised else Records.cleared

def restartNotice (cause : Cause) : Notice where
  subject := .dev
  kind := .restart
  event := .restart
  cause := some cause
  level := 7
  round := 0
  value := none
  transient := false
  test := false

def configNotice (cfg : Settings) : Notice where
  subject := .dev
  kind := .cond .config
  event := .active
  cause := none
  level := cfg.levels[Kind.config.index]
  round := 0
  value := none
  transient := false
  test := false

/-- The notice queue when the Clear step has ended, CONFIG's notice the younger. -/
def startNotices (cfg : Settings) (cause : Cause) (config : Bool) : NoticeQueue where
  entries := restartNotice cause :: if config then [configNotice cfg] else []
  overflow := false

/-- The part when the Clear step has ended, with the outputs `fout`. -/
def clearStepDone (s : State) (cause : RestartCause) (config : Bool) (fout : Fout) : State :=
  { s.clearAll with recs := startRecords config, nq := startNotices s.cfg cause.cause config, fout := fout }

theorem cond_startRecords (config : Bool) (id : CondId) :
    (startRecords config).cond id
      = if id = .dev .config ∧ config = true then configRaised else Cond.cleared := by
  have hclear : ∀ j, Records.cleared.cond j = Cond.cleared := cond_clearAll State.reset
  cases config with
  | false => simp [startRecords, hclear]
  | true => simp [startRecords, Records.cond_setCond, hclear]

/-- Only CONFIG's record differs from the cleared ones. -/
theorem startRecords_rest (config : Bool) :
    (startRecords config).lineRes = Records.cleared.lineRes ∧ (startRecords config).ampRes = Records.cleared.ampRes
    ∧ (startRecords config).refRes = Records.cleared.refRes ∧ (startRecords config).earthRes = Records.cleared.earthRes
    ∧ (startRecords config).minMax = Records.cleared.minMax
    ∧ (startRecords config).maskedRun = Records.cleared.maskedRun := by
  cases config with
  | false => exact ⟨rfl, rfl, rfl, rfl, rfl, rfl⟩
  | true => exact Records.cleared.setCond_rest (.dev .config) configRaised

/-- The Clear step ends with its notices handed over and FOUT told once more. -/
theorem announceRestart_clearAll (s : State) (cause : RestartCause) (config : Bool) :
    ∃ fout, s.clearAll.announceRestart cause config = (clearStepDone s cause config fout).reevalOutputs := by
  cases config with
  | false => exact ⟨s.fout, rfl⟩
  | true => exact ⟨(clearStepDone s cause false s.fout).reevalOutputs.fout, rfl⟩

/-! ## Round 0 (R61, R75, R80, R149) -/

/-- An output as it starts, told its health. -/
def outputStarted (o : OutSettings) (unhealthy : Bool) : OutLive where
  state := if o.mode = .off then .off else .starting 0
  unhealthy := unhealthy
  pulse := none

theorem startOutputs_reevalOutputs (s : State) :
    s.reevalOutputs.startOutputs
      = { s with fout := {
          a := outputStarted s.cfg.outA (s.unhealthy s.cfg.outA)
          b := outputStarted s.cfg.outB (s.unhealthy s.cfg.outB) } } := by
  rw [State.reevalOutputs_eq_tellOutputs]
  rfl

/-- The part in RUNNING with round 0 on its REF slot, before EBRG's first choice. -/
def roundZero (s : State) (cause : RestartCause) (config : Bool) : State :=
  let v := clearStepDone s cause config s.fout
  { v with
    boot := { s.boot with phase := .running }
    fout := { a := outputStarted s.cfg.outA (v.unhealthy s.cfg.outA), b := outputStarted s.cfg.outB (v.unhealthy s.cfg.outB) }
    seq := { Seq.cleared with
      state := .granted
      roundStart := s.clock
      periodInUse := s.cfg.scan.period
      counts := { RoundCounts.zero with slotGrants := 1 } }
    lconv := some (Meas.fresh .ref s.cfg.scan s.clock) }

theorem startUp_eq_choose (s : State) (cause : RestartCause) (config : Bool) :
    s.startUp cause config = (roundZero s cause config).choose := by
  obtain ⟨fout, hannounced⟩ := announceRestart_clearAll s cause config
  let v : State := { clearStepDone s cause config fout with boot := { s.boot with phase := .running } }
  have hstart := startOutputs_reevalOutputs v
  calc s.startUp cause config
      = v.reevalOutputs.startOutputs.startRound.choose := by
        rw [State.startUp, hannounced]
        rfl
    _ = (roundZero s cause config).choose := by
        rw [hstart]
        rfl

/-! ## EBRG's first choice (R78, R80, R90) -/

theorem choose_roundZero_off {s : State} {cause : RestartCause} {config : Bool} (h : s.cfg.earth.supervision = false) :
    (roundZero s cause config).choose.ebrg = Ebrg.cleared := by
  have hoff : ¬((roundZero s cause config).cfg.earth.supervision = true ∧ (roundZero s cause config).boot.phase = .running) :=
    fun hon => absurd (h.symm.trans hon.1) (by decide)
  rw [choose_idle (.inl hoff)]
  rfl

/-- LCONV is on the REF slot, so EBRG need not wait for the line it chooses. -/
theorem choose_roundZero_on {s : State} {cause : RestartCause} {config : Bool} {l : LineId}
    (h : s.cfg.earth.supervision = true) (hbefore : ∀ j : LineId, j < l → s.cfg.lines[j].state = .off)
    (hon : s.cfg.lines[l].state ≠ .off) :
    (roundZero s cause config).choose.ebrg.walk = l + 1
    ∧ (roundZero s cause config).choose.ebrg.mode.heldLine = some l := by
  let u := roundZero s cause config
  have hwalk : ∀ j : LineId, u.ebrg.walk + j = j := zero_add
  have hline : ∀ j : LineId, u.line (u.ebrg.walk + j) = s.cfg.lines[j] := fun j => congrArg u.line (hwalk j)
  have hnext : u.nextOnWalk = some (u.ebrg.walk + l) :=
    nextOnWalk_some (fun j hj => by rw [hline]; exact hbefore j hj) (by rw [hline]; exact hon)
  have hchosen := choose_line (s := u) h rfl (hnext.trans (congrArg some (hwalk l)))
  exact ⟨congrArg (·.ebrg.walk) hchosen, congrArg (·.ebrg.mode.heldLine) hchosen⟩

/-! ## Every start-up (R169) -/

theorem startedUp_startUp (s : State) (cause : RestartCause) (config : Bool) :
    StartedUp (s.startUp cause config) s.cfg cause.cause config := by
  obtain ⟨hline, hamp, href, hearth, hminMax, hmasked⟩ := startRecords_rest config
  have hoff := choose_roundZero_off (s := s) (cause := cause) (config := config)
  have hon := fun l => choose_roundZero_on (s := s) (cause := cause) (config := config) (l := l)
  have hbias := choose_lastBias (roundZero s cause config)
  rw [startUp_eq_choose, choose_frame]
  generalize (roundZero s cause config).choose.ebrg = e at hoff hon hbias
  exact {
    phase := rfl
    settings := rfl
    lineRes := fun l => (congrArg (·[l]) hline).trans (by simp [Records.cleared])
    ampRes := fun a => (congrArg (·[a]) hamp).trans (by simp [Records.cleared])
    refRes := href
    earthRes := fun l => (congrArg (·[l]) hearth).trans (by simp [Records.cleared])
    minMax := fun l => (congrArg (·[l]) hminMax).trans (by simp [Records.cleared, MinMax.cleared])
    maskedRun := fun l => (congrArg (·[l]) hmasked).trans (by simp [Records.cleared])
    conds := cond_startRecords config
    firstCount := fun a => by simp [roundZero, clearStepDone, State.clearAll]
    notices := ⟨restartNotice cause.cause, rfl, rfl, rfl, rfl, rfl, rfl, rfl⟩
    seq := rfl
    ref := ⟨_, rfl, rfl, rfl, rfl, rfl, rfl, rfl, rfl, rfl, rfl⟩
    earth_off := hoff
    earth_on := fun hsupervised l hbefore hstanding =>
      have ⟨hwalk, hheld⟩ := hon l hsupervised hbefore hstanding
      ⟨hwalk, hheld, hbias⟩
    outputs := rfl
    link := ⟨rfl, rfl, rfl, rfl⟩ }

/-- A start-up on settings put in place leaves what the Clear step has no hand in. -/
theorem stopKept_startUp (s : State) (image : ImageStatus) (cfg : Settings) (cause : RestartCause) (config : Bool) :
    StopKept s ((s.settle image cfg).startUp cause config) .running image := by
  rw [startUp_eq_choose, choose_frame]
  exact {
    boot := rfl
    learn := rfl
    frozen := rfl
    ports := fun q => by cases q <;> exact ⟨rfl, rfl⟩
    zones := rfl
    memory := rfl
    freeCount := rfl
    clock := rfl
    pending := rfl }

/-- A start-up leaves the supply, the straps, the EVAC filter and the pilot as they stand. -/
theorem startUp_inputs (s : State) (cause : RestartCause) (config : Bool) :
    (s.startUp cause config).power = s.power ∧ (s.startUp cause config).straps = s.straps
    ∧ (s.startUp cause config).evac = s.evac ∧ (s.startUp cause config).pilotOn = s.pilotOn := by
  rw [startUp_eq_choose, choose_frame]
  exact ⟨rfl, rfl, rfl, rfl⟩

/-! ## The release of reset and the Load step (R155, R156, R167, R168) -/

/-- The part once the straps are read and the EVAC filter has started. -/
def strapsRead (s : State) (cause : RestartCause) (straps : Straps) : State :=
  { s with
    power := .released cause
    straps := straps
    evac := { pinLow := s.evac.pinLow, since := some s.clock, filtered := false } }

theorem exec_resetRelease {s : State} {cause : RestartCause} (h : s.power = .inReset cause) (addr : BitVec 6)
    (baud source : Bool) :
    exec (.resetRelease addr baud source) s
      = .next (if source then
          { strapsRead s cause (readStraps addr baud source) with boot := { s.boot with image := .loading } }
        else ((strapsRead s cause (readStraps addr baud source)).settle .none Settings.default).startUp cause false) := by
  change execResetRelease addr baud source s = _
  rw [execResetRelease, h]
  cases source <;> rfl

theorem exec_loadStepEnd {s : State} {cause : RestartCause} (hpower : s.power = .released cause)
    (himage : s.boot.image = .loading) (ack : Bool) :
    exec (.loadStepEnd ack) s = .next (s.finishLoad cause (if ack then loadImage s.memory else none)) := by
  change execLoadStepEnd ack s = _
  rw [execLoadStepEnd, hpower, himage]

/-- The defaults are in force when the release of reset has ended under DEFAULTS. -/
theorem release_defaults (s : State) (cause : RestartCause) (straps : Straps) :
    let t := ((strapsRead s cause straps).settle .none Settings.default).startUp cause false
    StartedUp t Settings.default cause.cause false ∧ StopKept s t .running .none :=
  ⟨startedUp_startUp .., { stopKept_startUp (strapsRead s cause straps) .none Settings.default cause false with }⟩

/-- The Load step ends in a start-up on the image where it loads, and on the defaults with CONFIG where it does not. -/
theorem finishLoad_starts (s : State) (cause : RestartCause) (loaded : Option Settings) :
    match loaded with
    | some c => StartedUp (s.finishLoad cause loaded) c cause.cause false
        ∧ StopKept s (s.finishLoad cause loaded) .running .loaded
    | none => StartedUp (s.finishLoad cause loaded) Settings.default cause.cause true
        ∧ StopKept s (s.finishLoad cause loaded) .running .failed := by
  cases loaded with
  | some c => exact ⟨startedUp_startUp .., stopKept_startUp ..⟩
  | none => exact ⟨startedUp_startUp .., stopKept_startUp ..⟩

theorem finishLoad_inputs (s : State) (cause : RestartCause) (loaded : Option Settings) :
    (s.finishLoad cause loaded).power = s.power ∧ (s.finishLoad cause loaded).straps = s.straps
    ∧ (s.finishLoad cause loaded).evac = s.evac ∧ (s.finishLoad cause loaded).pilotOn = true := by
  cases loaded with
  | some c => exact startUp_inputs (s.settle .loaded c) cause false
  | none => exact startUp_inputs (s.settle .failed Settings.default) cause true

/-- Settles O50, a case each for DEFAULTS, for IMAGE, whose Load step is still to end, and for that end: every start-up of the
part is `startedUp_startUp` and `stopKept_startUp`. -/
theorem startUpTakesItsSettings : Obligations.StartUpTakesItsSettings := by
  unfold Obligations.StartUpTakesItsSettings
  refine ⟨fun s cause addr baud source hpower => ?_, fun s cause ack hpower himage => ?_⟩
  · have hexec := exec_resetRelease hpower addr baud source
    cases source with
    | false =>
      obtain ⟨hreleased, hstraps, hevac, hpilot⟩ :=
        startUp_inputs ((strapsRead s cause (readStraps addr baud false)).settle .none Settings.default) cause false
      obtain ⟨hstarted, hkept⟩ := release_defaults s cause (readStraps addr baud false)
      exact ⟨_, hexec, hreleased, hstraps, hevac, fun _ => ⟨hstarted, hkept, hpilot⟩, nofun⟩
    | true => exact ⟨_, hexec, rfl, rfl, rfl, nofun, fun _ => rfl⟩
  · obtain ⟨hreleased, hstraps, hevac, hpilot⟩ := finishLoad_inputs s cause (if ack then loadImage s.memory else none)
    exact ⟨_, exec_loadStepEnd hpower himage ack, hpilot, finishLoad_starts .., hreleased, hevac, hstraps⟩

end Sys2Proof.Machine.Startup
end

section
/-! SUPPORT. NQ: how a notice is placed, said once for a pair already queued, for a queue with room and for a full one, and
that it keeps the queue in order (R145, R146); the entry POLL chooses, and the obligation about POLL (R147). -/

namespace Sys2Proof.Machine.Notices

open Judge Leakage

/-! ## The levels of a queue (R146, R147) -/

theorem le_lowestLevel_iff (es : List Notice) (b : Level) : b ≤ lowestLevel es ↔ ∀ x ∈ es, b ≤ x.level := by
  have hfold : ∀ m : Level, b ≤ es.foldl (fun m e => min m e.level) m ↔ b ≤ m ∧ ∀ x ∈ es, b ≤ x.level := by
    induction es with
    | nil => simp
    | cons e es ih => simp [ih, and_assoc]
  exact (hfold 7).trans (and_iff_right (Fin.le_last b))

theorem highestLevel_le_iff (es : List Notice) (b : Level) : highestLevel es ≤ b ↔ ∀ x ∈ es, x.level ≤ b := by
  have hfold : ∀ m : Level, es.foldl (fun m e => max m e.level) m ≤ b ↔ m ≤ b ∧ ∀ x ∈ es, x.level ≤ b := by
    induction es with
    | nil => simp
    | cons e es ih => simp [ih, and_assoc]
  exact (hfold 0).trans (and_iff_right (Fin.zero_le b))

/-- The lowest level is that of an entry which no entry is below. -/
theorem lowestLevel_eq {es : List Notice} {e : Notice} (he : e ∈ es) (hleast : ∀ x ∈ es, e.level ≤ x.level) :
    lowestLevel es = e.level :=
  le_antisymm ((le_lowestLevel_iff es _).mp le_rfl e he) ((le_lowestLevel_iff es _).mpr hleast)

theorem highestLevel_eq {es : List Notice} {e : Notice} (he : e ∈ es) (hmost : ∀ x ∈ es, x.level ≤ e.level) :
    highestLevel es = e.level :=
  le_antisymm ((highestLevel_le_iff es _).mpr hmost) ((highestLevel_le_iff es _).mp le_rfl e he)

/-- A queue with an entry has an oldest entry of its lowest level. -/
theorem exists_oldest_lowest {es : List Notice} (h : es ≠ []) :
    ∃ (older : List Notice) (e : Notice) (younger : List Notice), es = older ++ e :: younger
      ∧ (∀ x ∈ es, e.level ≤ x.level) ∧ ∀ x ∈ older, x.level ≠ e.level := by
  obtain ⟨m, hmem, hleast⟩ := es.toFinset.exists_min_image Notice.level (by simpa using h)
  obtain ⟨e, older, younger, holder, he, hsplit, -⟩ :=
    List.exists_of_eraseP (p := fun x => decide (x.level = m.level)) (List.mem_toFinset.mp hmem) (decide_eq_true rfl)
  rw [← of_decide_eq_true he] at hleast holder
  exact ⟨older, e, younger, hsplit, fun x hx => hleast x (List.mem_toFinset.mpr hx), by simpa using holder⟩

/-! ## Placing a notice (R145, R146) -/

theorem samePair_iff (e n : Notice) : e.samePair n = true ↔ e.subject = n.subject ∧ e.kind = n.kind := by
  simp [Notice.samePair]

/-- An entry updated by a notice of its pair is the notice, with the flags the entry hands on. -/
theorem update_of_samePair {e n : Notice} (h : e.samePair n = true) :
    e.update n
      = { n with
          transient := e.transient || decide (e.event = .active ∧ n.event = .clear)
          test := e.test || n.test } := by
  obtain ⟨hsubject, hkind⟩ := (samePair_iff e n).mp h
  simp [Notice.update, hsubject, hkind]

/-- The oldest entry of the pair is updated where it stands. -/
theorem updateInPlace_of_pair {n e : Notice} {older : List Notice} (younger : List Notice)
    (hothers : ∀ x ∈ older, ¬x.samePair n = true) (he : e.samePair n = true) :
    updateInPlace n (older ++ e :: younger) = some (older ++ e.update n :: younger) := by
  induction older with
  | nil => exact if_pos he
  | cons x older ih =>
    rw [List.cons_append, updateInPlace, if_neg (hothers x List.mem_cons_self),
      ih fun y hy => hothers y (List.mem_cons_of_mem x hy)]
    rfl

theorem updateInPlace_of_new {n : Notice} {es : List Notice} (hothers : ∀ x ∈ es, ¬x.samePair n = true) :
    updateInPlace n es = none := by
  induction es with
  | nil => rfl
  | cons x es ih =>
    rw [updateInPlace, if_neg (hothers x List.mem_cons_self), ih fun y hy => hothers y (List.mem_cons_of_mem x hy)]
    rfl

section
variable {q : NoticeQueue} {n : Notice}

theorem place_of_pair {older younger : List Notice} {e : Notice} (hq : q.entries = older ++ e :: younger)
    (hothers : ∀ x ∈ older, ¬x.samePair n = true) (he : e.samePair n = true) :
    q.place n = { q with entries := older ++ e.update n :: younger } := by
  rw [NoticeQueue.place, hq, updateInPlace_of_pair younger hothers he]

theorem place_of_room (hnew : ∀ x ∈ q.entries, ¬x.samePair n = true) (hroom : q.entries.length < 32) :
    q.place n = { q with entries := q.entries ++ [n] } := by
  rw [NoticeQueue.place, updateInPlace_of_new hnew]
  exact if_pos hroom

theorem place_of_full {older younger : List Notice} {e : Notice} (hnew : ∀ x ∈ q.entries, ¬x.samePair n = true)
    (hfull : 32 ≤ q.entries.length) (hq : q.entries = older ++ e :: younger)
    (hleast : ∀ x ∈ q.entries, e.level ≤ x.level) (holdest : ∀ x ∈ older, x.level ≠ e.level) :
    q.place n
      = { entries := if e.level < n.level then older ++ younger ++ [n] else q.entries, overflow := true } := by
  have hlowest : lowestLevel q.entries = e.level := lowestLevel_eq (by simp [hq]) hleast
  have herase : q.entries.eraseP (fun x => decide (x.level = e.level)) = older ++ younger := by
    rw [hq, List.eraseP_append_right _ (by simpa using holdest), List.eraseP_cons_of_pos (by simp)]
  rw [NoticeQueue.place, updateInPlace_of_new hnew, shed, hlowest, herase]
  exact if_neg (Nat.not_lt.mpr hfull)

end

/-! ## The queue in order (R145, R148) -/

/-- The subject and kind of an entry. -/
def pairOf (e : Notice) : Subject × NoticeKind := (e.subject, e.kind)

/-- No more than 32 entries, and no pair twice. -/
structure InOrder (q : NoticeQueue) : Prop where
  length_le : q.entries.length ≤ 32
  nodup : (q.entries.map pairOf).Nodup

theorem samePair_iff_pairOf (e n : Notice) : e.samePair n = true ↔ pairOf e = pairOf n := by
  rw [samePair_iff, pairOf, pairOf, Prod.mk.injEq]

theorem noticesOk_iff (s : State) : NoticesOk s ↔ InOrder s.nq := by
  have hpairs : (s.nq.entries.map pairOf).Nodup
      ↔ s.nq.entries.Pairwise fun a b => ¬(a.subject = b.subject ∧ a.kind = b.kind) := by
    simp only [List.Nodup, List.pairwise_map, pairOf, ne_eq, Prod.mk.injEq]
  exact ⟨fun h => ⟨h.length_le, hpairs.mpr h.pairs_distinct⟩, fun h => ⟨h.length_le, hpairs.mp h.nodup⟩⟩

section
variable {q r : NoticeQueue} {n : Notice}

/-- Entries that leave the queue leave it in order. -/
theorem InOrder.sublist (h : InOrder q) (k : r.entries.Sublist q.entries) : InOrder r :=
  ⟨k.length_le.trans h.length_le, h.nodup.sublist (k.map pairOf)⟩

theorem InOrder.dropSubject (h : InOrder q) (x : Subject) : InOrder (q.dropSubject x) := h.sublist List.filter_sublist

theorem InOrder.take (h : InOrder q) (chosen : Notice) : InOrder (q.take chosen) := h.sublist List.eraseP_sublist

/-- A notice of a pair that is not queued joins the entries that stay, while there is room for it. -/
theorem InOrder.append {es : List Notice} (h : InOrder q) (hnew : ∀ x ∈ q.entries, ¬x.samePair n = true)
    (hes : es.Sublist q.entries) (hroom : es.length < 32) (overflow : Bool) :
    InOrder { entries := es ++ [n], overflow := overflow } := by
  refine ⟨by simpa using hroom, ?_⟩
  have hpair : pairOf n ∉ es.map pairOf := fun hmem => by
    obtain ⟨x, hx, heq⟩ := List.mem_map.mp hmem
    exact hnew x (hes.subset hx) ((samePair_iff_pairOf x n).mpr heq)
  rw [List.map_append, List.map_singleton, ← List.concat_eq_append]
  exact (h.nodup.sublist (hes.map pairOf)).concat hpair

theorem pairOf_update (e n : Notice) : pairOf (e.update n) = pairOf e := rfl

/-- Placing a notice keeps the queue in order: an update moves no pair, and at 32 entries one leaves before one joins. -/
theorem InOrder.place (h : InOrder q) (n : Notice) : InOrder (q.place n) := by
  by_cases hpair : ∃ x ∈ q.entries, x.samePair n = true
  · obtain ⟨x, hx, hxn⟩ := hpair
    obtain ⟨e, older, younger, hothers, he, hq, -⟩ := List.exists_of_eraseP (p := fun x => x.samePair n) hx hxn
    rw [place_of_pair hq hothers he]
    have hlength := h.length_le
    have hnodup := h.nodup
    rw [hq] at hlength hnodup
    exact ⟨by simpa using hlength, by simpa [pairOf_update] using hnodup⟩
  · have hnew : ∀ x ∈ q.entries, ¬x.samePair n = true := fun x hx hxn => hpair ⟨x, hx, hxn⟩
    by_cases hroom : q.entries.length < 32
    · rw [place_of_room hnew hroom]
      exact h.append hnew (List.Sublist.refl _) hroom _
    · have hfull := Nat.not_lt.mp hroom
      obtain ⟨older, e, younger, hq, hleast, holdest⟩ :=
        exists_oldest_lowest (es := q.entries) (fun hnil => by simp [hnil] at hfull)
      rw [place_of_full hnew hfull hq hleast holdest]
      split
      · have hlength := h.length_le
        have hleft : (older ++ younger).Sublist q.entries := hq ▸ (List.sublist_cons_self e younger).append_left older
        rw [hq] at hlength
        exact h.append hnew hleft (by simp at hlength ⊢; omega) true
      · exact ⟨h.length_le, h.nodup⟩

end

/-! ## POLL (R147) -/

section
variable {q : NoticeQueue} {minimum : Level} {older younger : List Notice} {n : Notice}

/-- POLL chooses the oldest entry of the highest level at or above the minimum. -/
theorem best_of_split (hq : q.entries = older ++ n :: younger) (hmin : minimum ≤ n.level)
    (hmost : ∀ e ∈ q.entries, minimum ≤ e.level → e.level ≤ n.level) (holdest : ∀ e ∈ older, e.level ≠ n.level) :
    q.best minimum = some n := by
  have hhighest : highestLevel (q.entries.filter fun e => decide (minimum ≤ e.level)) = n.level :=
    highestLevel_eq (List.mem_filter.mpr ⟨by simp [hq], decide_eq_true hmin⟩) fun x hx => by
      obtain ⟨hmem, hx⟩ := List.mem_filter.mp hx
      exact hmost x hmem (of_decide_eq_true hx)
  rw [NoticeQueue.best, hhighest, List.find?_filter, List.find?_eq_some_iff_append]
  exact ⟨by simpa using hmin, older, younger, hq, fun x hx => by simp [holdest x hx]⟩

theorem best_of_none (h : ∀ e ∈ q.entries, ¬minimum ≤ e.level) : q.best minimum = none := by
  have hnone : q.entries.filter (fun e => decide (minimum ≤ e.level)) = [] := by simpa using h
  rw [NoticeQueue.best, hnone]
  rfl

theorem take_of_split (hq : q.entries = older ++ n :: younger) (holdest : ∀ e ∈ older, e.level ≠ n.level) :
    q.take n = { q with entries := older ++ younger } := by
  have hothers : ∀ e ∈ older, ¬decide (e = n) = true := fun e he heq =>
    holdest e he (congrArg Notice.level (of_decide_eq_true heq))
  rw [NoticeQueue.take, hq, List.eraseP_append_right _ hothers, List.eraseP_cons_of_pos (by simp)]

end

theorem parsePoll_item (b : Byte) : parsePoll [1, 1, b] = if h : b.toNat < 8 then some ⟨b.toNat, h⟩ else none := by
  have hitems : parseItems pollItems [1, 1, b] = some [(1, [b])] := rfl
  have hvalue : itemValue [(1, [b])] 1 = some b.toNat := by simp [itemValue, findItem, bigEndian]
  simp only [parsePoll, hitems, Option.bind_eq_bind, Option.bind_some, selectorField, hvalue]
  by_cases h : b.toNat < 8
  · rw [dif_pos h, dif_pos h]
    rfl
  · rw [dif_neg h, dif_neg h]
    rfl

/-- POLL's decision with an entry to deliver does not look at the port its frame came in on. -/
theorem pollAct_delivers {s : State} {minimum : Level} {older younger : List Notice} {n : Notice} (p : Port)
    (hq : s.nq.entries = older ++ n :: younger) (hmin : minimum ≤ n.level)
    (hmost : ∀ e ∈ s.nq.entries, minimum ≤ e.level → e.level ≤ n.level) (holdest : ∀ e ∈ older, e.level ≠ n.level) :
    pollAct minimum (s.hunt p)
      = (({ s with nq := { s.nq with entries := older ++ younger } } : State).hunt p,
          .full .done (.pollEntry (older.length + younger.length) n)) := by
  have hnq : (s.hunt p).nq = s.nq := by cases p <;> rfl
  rw [pollAct, hnq, best_of_split hq hmin hmost holdest]
  simp only [take_of_split hq holdest, List.length_append]
  cases p <;> rfl

theorem pollAct_empty {s : State} {minimum : Level} (p : Port) (h : ∀ e ∈ s.nq.entries, ¬minimum ≤ e.level) :
    pollAct minimum (s.hunt p) = (s.hunt p, .full .done (.pollEmpty s.nq.entries.length)) := by
  have hnq : (s.hunt p).nq = s.nq := by cases p <;> rfl
  rw [pollAct, hnq, best_of_none h]

/-- Settles O27: the choice of POLL, its EMPTY, its answer in STARTING and that no group or broadcast frame carries it. -/
theorem pollDeliversTheBestEntry : Obligations.PollDeliversTheBestEntry := by
  unfold Obligations.PollDeliversTheBestEntry
  refine ⟨rfl, parsePoll_item, fun s p dest pl hlen => ⟨fun h => ⟨fun hparse => ?_, fun minimum hparse => ⟨?_, ?_⟩⟩,
    fun hpower hphase hfree hdest => ?_, fun h => ?_⟩⟩
  · exact congrArg Host.Outcome.next (deliver_answered (t := s) (a := .bare .refusedArg)
      (unit := fun u => parsed (parsePoll pl) u pollAct) h hlen rfl (by rw [hparse]; rfl))
  · intro older n younger hq hmin hmost holdest
    exact congrArg Host.Outcome.next (deliver_parsed h hlen hparse rfl (pollAct_delivers p hq hmin hmost holdest))
  · intro hnone
    exact congrArg Host.Outcome.next (deliver_parsed h hlen hparse rfl (pollAct_empty p hnone))
  · exact congrArg Host.Outcome.next (deliver_of_starting _ _ hpower hphase hfree hdest hlen (by decide))
  · exact congrArg Host.Outcome.next (deliver_of_takesMulti_unitKind _ _ h hlen rfl)

end Sys2Proof.Machine.Notices
end

section
/-! SUPPORT. STATUS: what the forming of its reply clears, and the obligation about its items (R146, R162). -/

namespace Sys2Proof.Machine.Notices

open Judge

/-- STATUS's decision but for the dropped-frame counts does not look at the port its frame came in on. -/
theorem clearStatusItems_hunt (s : State) (p : Port) : (s.hunt p).clearStatusItems = s.clearStatusItems.hunt p := by
  cases p <;> rfl

theorem statusReport_hunt (s : State) (p : Port) : statusReport (s.hunt p) = statusReport s := by cases p <;> rfl

/-- Settles O26: the reply is formed of the state as its frame is taken, and the four items are cleared beside it. -/
theorem statusReportsAndClears : Obligations.StatusReportsAndClears := by
  unfold Obligations.StatusReportsAndClears
  intro s p dest h
  have hrunning : s.boot.phase = .running := by
    obtain ⟨-, hrunning, -, -⟩ := h
    exact hrunning
  have hact : noPayload [] (s.hunt p) (fun u => (u.clearStatusItems, .full .done (.status (statusReport u))))
      = (s.clearStatusItems.hunt p, .full .done (.status (statusReport s))) := by
    rw [noPayload, if_pos rfl, clearStatusItems_hunt, statusReport_hunt]
  refine (congrArg Host.Outcome.next (deliver_answered h (by simp) rfl hact)).trans ?_
  rw [statusReport, hrunning]
  rfl

end Sys2Proof.Machine.Notices
end

section
/-! SUPPORT. FOUT: an output that is told its health, that reacts to SET-OUTPUT and whose pulse phase ends, and the
obligations about SET-OUTPUT and about the pulse phases (R150 to R153). -/

namespace Sys2Proof.Machine.FaultOutputs

open Converter Judge

/-! ## Pulse phases (R151) -/

theorem exec_pulsePhaseExpiry {s : State} {o : OutputId} {ph : Pulse} (h : (s.fout.get o).pulse = some ph) :
    exec (.pulsePhaseExpiry o) s
      = .next { s.waitUntil ph.next.since with fout := s.fout.set o { s.fout.get o with pulse := some ph.next } } := by
  change execPulsePhaseExpiry o s = _
  rw [execPulsePhaseExpiry, h]

/-- The pin of a healthy PULSED output shows its pulse phase. -/
theorem drive_of_pulse {l : OutLive} {o : OutSettings} {ph : Pulse} (hstate : l.state = .running)
    (hhealth : l.unhealthy = false) (hmode : o.mode = .pulsed) (hpulse : l.pulse = some ph) :
    l.drive o = if ph.asserted then .asserted else .released := by
  rw [Scan.drive_eq, hstate]
  simp [hhealth, hmode, hpulse]

theorem level_eq (l : OutLive) (o : OutSettings) :
    l.level o = match l.drive o with
      | .highImpedance => .highImpedance
      | .asserted => if o.invert then .high else .low
      | .released => if o.invert then .low else .high := rfl

/-- Settles O60: the phase that ends is followed by the other, and the pin shows it. -/
theorem pulsePhasesAlternate : Obligations.PulsePhasesAlternate := by
  unfold Obligations.PulsePhasesAlternate
  intro s o ph hpulse ends out
  refine ⟨exec_pulsePhaseExpiry hpulse, fun hstate hhealth hmode => ?_⟩
  have hdrive : out.drive (s.cfg.out o) = if ph.asserted then .released else .asserted := by
    rw [drive_of_pulse (l := out) hstate hhealth hmode rfl]
    cases ph.asserted <;> rfl
  refine ⟨hdrive, ?_⟩
  rw [level_eq, hdrive]
  cases ph.asserted <;> cases (s.cfg.out o).invert <;> rfl

/-! ## An output told its health (R150, R151) -/

theorem told_same {l : OutLive} {o : OutSettings} {unhealthy : Bool} {now : Nat} (h : l.unhealthy = unhealthy) :
    l.told o unhealthy now = l := by
  subst h
  simp [OutLive.told]

/-! ## The reaction to SET-OUTPUT (R152, R153) -/

section
variable {l : OutLive} {old new : OutSettings} {now : Nat}

theorem react_to_off (h : new.mode = .off) : l.react old new now = { l with state := .off, pulse := none } := if_pos h

theorem react_from_off (hnew : new.mode ≠ .off) (hold : old.mode = .off) :
    l.react old new now = { l with state := .starting 0, pulse := none } := by
  rw [OutLive.react, if_neg hnew, if_pos hold, OutLive.enterStarting, if_neg hnew]

/-- An output whose mode is OFF neither before nor after reacts by its state. -/
theorem react_on (hnew : new.mode ≠ .off) (hold : old.mode ≠ .off) :
    l.react old new now = match l.state with
      | .off => l
      | .starting n =>
        if old.short = false ∧ new.short = true ∧ 3 ≤ n then
          { l with state := .running, pulse := newPeriod new l.unhealthy now } else l
      | .running => if old.mode = new.mode then l else { l with pulse := newPeriod new l.unhealthy now } := by
  have hshort : (old.short ≠ new.short ∧ new.short = true) ↔ (old.short = false ∧ new.short = true) := by
    cases old.short <;> cases new.short <;> simp
  rw [OutLive.react, if_neg hnew, if_neg hold]
  cases l.state with
  | off | running => rfl
  | starting n => exact if_congr (by rw [← and_assoc, hshort, and_assoc]) rfl rfl

theorem react_unhealthy : (l.react old new now).unhealthy = l.unhealthy := by
  by_cases hnew : new.mode = .off
  · rw [react_to_off hnew]
  · by_cases hold : old.mode = .off
    · rw [react_from_off hnew hold]
    · rw [react_on hnew hold]
      split
      · rfl
      · split <;> rfl
      · split <;> rfl

end

/-- An output that is told its health and whose mode is OFF neither before nor after SET-OUTPUT: it leaves STARTING at once
under the short interval, it begins a new period where its health or its mode in RUNNING changes, and otherwise it stays. -/
theorem react_told_on {was : OutLive} {old new : OutSettings} {unhealthy : Bool} {now : Nat} (hnew : new.mode ≠ .off)
    (hold : old.mode ≠ .off) :
    let l := (was.told new unhealthy now).react old new now
    l.state = (match was.state with
      | .starting n => if old.short = false ∧ new.short = true ∧ 3 ≤ n then .running else .starting n
      | .off => .off
      | .running => .running)
    ∧ (was.state ≠ .running → l.state = .running → l.pulse = newPeriod new unhealthy now)
    ∧ (was.state = .running → old.mode ≠ new.mode ∨ was.unhealthy ≠ unhealthy → l.pulse = newPeriod new unhealthy now)
    ∧ (was.state = .running → old.mode = new.mode → was.unhealthy = unhealthy → l = was) := by
  intro l
  have hl : l = match was.state with
      | .off => was.told new unhealthy now
      | .starting n =>
        if old.short = false ∧ new.short = true ∧ 3 ≤ n then
          { was.told new unhealthy now with state := .running, pulse := newPeriod new unhealthy now }
        else was.told new unhealthy now
      | .running =>
        if old.mode = new.mode then was.told new unhealthy now
        else { was.told new unhealthy now with pulse := newPeriod new unhealthy now } :=
    react_on hnew hold
  have htold : (was.told new unhealthy now).state = was.state := rfl
  cases hwas : was.state with
  | off =>
    rw [hwas] at hl htold
    dsimp only at hl
    have hstays : l.state = .off := by rw [hl, htold]
    exact ⟨hstays, fun _ hrun => absurd (hstays.symm.trans hrun) nofun, nofun, nofun⟩
  | starting n =>
    rw [hwas] at hl htold
    dsimp only at hl ⊢
    split at hl
    · next h => exact ⟨by rw [hl, if_pos h], fun _ _ => by rw [hl], nofun, nofun⟩
    · next h =>
      have hstays : l.state = .starting n := by rw [hl, htold]
      exact ⟨by rw [hstays, if_neg h], fun _ hrun => absurd (hstays.symm.trans hrun) nofun, nofun, nofun⟩
  | running =>
    rw [hwas] at hl htold
    dsimp only at hl
    by_cases hmode : old.mode = new.mode
    · rw [if_pos hmode] at hl
      refine ⟨hl ▸ htold, fun h => absurd rfl h, fun _ hchange => ?_, fun _ _ hhealth => hl.trans (told_same hhealth)⟩
      have hhealth := hchange.resolve_left (not_not.mpr hmode)
      rw [hl, OutLive.told, if_neg hhealth, if_pos hwas]
    · rw [if_neg hmode] at hl
      exact ⟨by rw [hl]; exact htold, fun h => absurd rfl h, fun _ _ => by rw [hl], fun _ h => absurd h hmode⟩

/-! ## SET-OUTPUT (R150 to R153) -/

/-- Both outputs told their health under the settings `cfg`. -/
def foutTold (s : State) (cfg : Settings) : Fout where
  a := s.fout.a.told cfg.outA (s.unhealthy cfg.outA) s.clock
  b := s.fout.b.told cfg.outB (s.unhealthy cfg.outB) s.clock

theorem get_foutTold (s : State) (cfg : Settings) (o : OutputId) :
    (foutTold s cfg).get o = (s.fout.get o).told (cfg.out o) (s.unhealthy (cfg.out o)) s.clock := by
  cases o <;> rfl

/-- The settings after an accepted SET-OUTPUT. -/
def outputSet (c : OutputChange) (cfg : Settings) : Settings := cfg.setOut c.out (c.write (cfg.out c.out))

/-- The outputs after an accepted SET-OUTPUT: both told, the one named having reacted. -/
def foutReacted (c : OutputChange) (s : State) : Fout :=
  let told := foutTold s (outputSet c s.cfg)
  told.set c.out ((told.get c.out).react (s.cfg.out c.out) (c.write (s.cfg.out c.out)) s.clock)

/-- The health of an output does not depend on what is set for the outputs. -/
theorem unhealthy_setOut (s : State) (c : OutputId) (x o : OutSettings) (fout : Fout) :
    ({ s with cfg := s.cfg.setOut c x, fout := fout } : State).unhealthy o = s.unhealthy o := by
  cases c <;> rfl

theorem applySetOutput_eq (c : OutputChange) (s : State) :
    applySetOutput c s = ({ s with cfg := outputSet c s.cfg, fout := foutReacted c s } : State).advanced := by
  let u : State := { s with cfg := outputSet c s.cfg }
  have htold : u.reevalOutputs.fout = foutTold s (outputSet c s.cfg) := by
    have hhealth : ∀ o, u.unhealthy o = s.unhealthy o := fun o => unhealthy_setOut s c.out _ o s.fout
    rw [State.reevalOutputs_eq_tellOutputs, State.tellOutputs, hhealth, hhealth]
    rfl
  have hreacted : foutReacted c s = u.reevalOutputs.fout.set c.out ((u.reevalOutputs.fout.get c.out).react
      (s.cfg.out c.out) (c.write (s.cfg.out c.out)) s.clock) := by rw [htold]; rfl
  rw [hreacted]
  rfl

/-- SET-OUTPUT's decision does not look at the port its frame came in on. -/
theorem setOutputAct_hunt (c : OutputChange) (s : State) (p : Port) :
    setOutputAct c (s.hunt p)
      = ((applySetOutput c s).hunt p,
          .full .done (.output (c.write (s.cfg.out c.out)) ((foutReacted c s).get c.out) s.counterAfter)) := by
  have hfout : foutReacted c (s.hunt p) = foutReacted c s := by cases p <;> rfl
  have hset : (outputSet c s.cfg).out c.out = c.write (s.cfg.out c.out) := Settings.out_setOut_same ..
  rw [setOutputAct, applySetOutput_eq, applySetOutput_eq, hfout, ← hset]
  cases p <;> rfl

theorem get_foutReacted_same (c : OutputChange) (s : State) :
    (foutReacted c s).get c.out
      = ((s.fout.get c.out).told (c.write (s.cfg.out c.out)) (s.unhealthy (c.write (s.cfg.out c.out))) s.clock).react
          (s.cfg.out c.out) (c.write (s.cfg.out c.out)) s.clock := by
  rw [foutReacted, Fout.get_set_same, get_foutTold, outputSet, Settings.out_setOut_same]

theorem get_foutReacted_ne {c : OutputChange} {o : OutputId} (s : State) (h : o ≠ c.out) :
    (foutReacted c s).get o = (s.fout.get o).told (s.cfg.out o) (s.unhealthy (s.cfg.out o)) s.clock := by
  rw [foutReacted, Fout.get_set_ne _ _ _ _ h, get_foutTold, outputSet, Settings.out_setOut_ne _ _ _ _ h]

/-- Settles O39: the settings are written, both outputs told, and the one named reacts by its old and its new mode. -/
theorem setOutputActsOnTheOutput : Obligations.SetOutputActsOnTheOutput := by
  unfold Obligations.SetOutputActsOnTheOutput
  intro s p dest pl c h hlen hparse old new was
  refine ⟨foutReacted c s, ?_⟩
  intro now
  have hnow : now = (was.told new (s.unhealthy new) s.clock).react old new s.clock := get_foutReacted_same c s
  have hhealth : now.unhealthy = s.unhealthy new := by rw [hnow, react_unhealthy]; rfl
  refine ⟨?_, hhealth, fun o ho => ?_, fun hnew => ?_, fun hnew hold => ?_, fun hnew hold => ?_⟩
  · refine (congrArg Host.Outcome.next (deliver_parsed h hlen hparse rfl (setOutputAct_hunt c s p))).trans ?_
    rw [applySetOutput_eq]
    rfl
  · rw [get_foutReacted_ne s ho]
    exact ⟨rfl, rfl, rfl⟩
  · rw [hnow, react_to_off hnew]
    exact ⟨rfl, rfl, rfl⟩
  · rw [hnow, react_from_off hnew hold]
    exact ⟨rfl, rfl⟩
  · rw [hhealth, hnow]
    exact react_told_on hnew hold

end Sys2Proof.Machine.FaultOutputs
end

section
/-! SUPPORT. What an output's state fields agree with, said once for each of its states, and that FOUT's own acts keep the
agreement: an output told its health, at the end of a round, at SET-OUTPUT and at a start (R149 to R153). -/

namespace Sys2Proof.Machine.FaultOutputs

open Converter Startup

theorem newPeriod_isSome (o : OutSettings) (unhealthy : Bool) (now : Nat) :
    (newPeriod o unhealthy now).isSome = true ↔ o.mode = .pulsed ∧ unhealthy = false := by
  unfold newPeriod
  split
  · next h => simpa using h
  · next h => simpa using h

/-- What the agreement asks of an output in each of its states: no pulse but in RUNNING, and no state but OFF outside the phase
RUNNING. -/
theorem agrees_iff (l : OutLive) (o : OutSettings) (phase : Phase) :
    l.Agrees o phase ↔ match l.state with
      | .off => l.pulse = none ∧ (phase = .running → o.mode = .off)
      | .starting n => l.pulse = none ∧ n < o.startInterval ∧ phase = .running ∧ o.mode ≠ .off
      | .running => (l.pulse.isSome = true ↔ o.mode = .pulsed ∧ l.unhealthy = false) ∧ phase = .running ∧ o.mode ≠ .off := by
  have hphase : phase ≠ .starting ↔ phase = .running := by cases phase <;> decide
  constructor
  · rintro ⟨hpulse, hcount, hstarting, hoff⟩
    cases hstate : l.state with
    | off => exact ⟨by simpa [hstate] using hpulse, fun hp => (hoff hp).mp hstate⟩
    | starting n =>
      have hp := hphase.mp fun h => by simp [hstate] at hstarting; exact hstarting h
      exact ⟨by simpa [hstate] using hpulse, hcount n hstate, hp, by simpa [hstate] using hoff hp⟩
    | running =>
      have hp := hphase.mp fun h => by simp [hstate] at hstarting; exact hstarting h
      exact ⟨by simpa [hstate] using hpulse, hp, by simpa [hstate] using hoff hp⟩
  · intro h
    cases hstate : l.state with
    | off =>
      rw [hstate] at h
      obtain ⟨hpulse, hmode⟩ := h
      exact ⟨by simp [hstate, hpulse], by simp [hstate], fun _ => hstate, fun hp => by simp [hstate, hmode hp]⟩
    | starting n =>
      rw [hstate] at h
      obtain ⟨hpulse, hcount, hp, hmode⟩ := h
      exact ⟨by simp [hstate, hpulse], fun m hm => by cases hstate.symm.trans hm; exact hcount,
        fun hs => absurd hs (hphase.mpr hp), fun _ => by simp [hstate, hmode]⟩
    | running =>
      rw [hstate] at h
      obtain ⟨hpulse, hp, hmode⟩ := h
      exact ⟨by simp [hstate, hpulse], by simp [hstate], fun hs => absurd hs (hphase.mpr hp),
        fun _ => by simp [hstate, hmode]⟩

section
variable {l : OutLive} {o old new : OutSettings} {phase : Phase}

theorem startInterval_pos (o : OutSettings) : 0 < o.startInterval := by
  unfold OutSettings.startInterval
  split <;> decide

theorem agrees_told (h : l.Agrees o phase) (unhealthy : Bool) (now : Nat) : (l.told o unhealthy now).Agrees o phase := by
  by_cases hsame : l.unhealthy = unhealthy
  · rw [told_same hsame]
    exact h
  · have htold : l.told o unhealthy now
        = { state := l.state, unhealthy := unhealthy
            pulse := if l.state = .running then newPeriod o unhealthy now else none } := by rw [OutLive.told, if_neg hsame]
    rw [htold, agrees_iff]
    rw [agrees_iff] at h
    dsimp only
    cases hstate : l.state with
    | off | starting n =>
      rw [hstate] at h
      obtain ⟨-, hrest⟩ := h
      exact ⟨rfl, hrest⟩
    | running =>
      rw [hstate] at h
      obtain ⟨-, hrest⟩ := h
      exact ⟨newPeriod_isSome .., hrest⟩

theorem agrees_countRound (h : l.Agrees o phase) (now : Nat) : (l.countRound o now).Agrees o phase := by
  unfold OutLive.countRound
  cases hstate : l.state with
  | off | running => exact h
  | starting n =>
    rw [agrees_iff, hstate] at h
    obtain ⟨hpulse, -, hrest⟩ := h
    dsimp only
    split
    · exact (agrees_iff ..).mpr ⟨newPeriod_isSome .., hrest⟩
    · next hcount => exact (agrees_iff ..).mpr ⟨hpulse, Nat.not_le.mp hcount, hrest⟩

theorem countRound_unhealthy (l : OutLive) (o : OutSettings) (now : Nat) : (l.countRound o now).unhealthy = l.unhealthy := by
  unfold OutLive.countRound
  split
  · split <;> rfl
  · rfl
  · rfl

/-- A start that SET-OUTPUT does not end has still to reach the interval then set. -/
theorem lt_startInterval_of_waits {n : Nat} (hcount : n < old.startInterval)
    (hwaits : ¬(old.short = false ∧ new.short = true ∧ 3 ≤ n)) : n < new.startInterval := by
  unfold OutSettings.startInterval at hcount ⊢
  cases hnew : new.short with
  | false =>
    simp only [Bool.false_eq_true, if_false]
    split at hcount <;> omega
  | true =>
    cases hold : old.short with
    | false => exact Nat.not_le.mp fun hn => hwaits ⟨hold, hnew, hn⟩
    | true => simpa [hold] using hcount

/-- An output told its health under its new settings agrees with them once it has reacted to them. -/
theorem agrees_react (h : l.Agrees old .running) (unhealthy : Bool) (now : Nat) :
    ((l.told new unhealthy now).react old new now).Agrees new .running := by
  by_cases hnew : new.mode = .off
  · rw [react_to_off hnew, agrees_iff]
    exact ⟨rfl, fun _ => hnew⟩
  by_cases hold : old.mode = .off
  · rw [react_from_off hnew hold, agrees_iff]
    exact ⟨rfl, startInterval_pos new, rfl, hnew⟩
  have htold : (l.told new unhealthy now).state = l.state := rfl
  rw [react_on hnew hold, htold]
  rw [agrees_iff] at h
  cases hstate : l.state with
  | off =>
    rw [hstate] at h
    obtain ⟨-, hmode⟩ := h
    exact absurd (hmode rfl) hold
  | starting n =>
    rw [hstate] at h
    obtain ⟨hpulse, hcount, -⟩ := h
    dsimp only
    split
    · exact (agrees_iff ..).mpr ⟨newPeriod_isSome .., rfl, hnew⟩
    · next hwaits =>
      have hpulse' : (l.told new unhealthy now).pulse = none := by simp [OutLive.told, hstate, hpulse]
      rw [agrees_iff, htold, hstate]
      exact ⟨hpulse', lt_startInterval_of_waits hcount hwaits, rfl, hnew⟩
  | running =>
    rw [hstate] at h
    obtain ⟨hpulse, -⟩ := h
    dsimp only
    split
    · next hmode =>
      refine agrees_told ?_ unhealthy now
      rw [agrees_iff, hstate]
      exact ⟨hmode ▸ hpulse, rfl, hnew⟩
    · exact (agrees_iff ..).mpr ⟨newPeriod_isSome .., rfl, hnew⟩

/-- The next phase of an output that pulses. -/
theorem agrees_withPulse {ph : Pulse} (h : l.Agrees o phase) (hpulse : l.pulse = some ph) (next : Pulse) :
    { l with pulse := some next }.Agrees o phase :=
  ⟨by simpa [hpulse] using h.pulse_iff, h.count_lt, h.starting_off, h.off_iff⟩

theorem agrees_stopped (l : OutLive) (o : OutSettings) : l.stop.Agrees o .starting :=
  (agrees_iff ..).mpr ⟨rfl, nofun⟩

theorem agrees_outputStarted (o : OutSettings) (unhealthy : Bool) : (outputStarted o unhealthy).Agrees o .running := by
  unfold outputStarted
  by_cases hmode : o.mode = .off
  · rw [if_pos hmode, agrees_iff]
    exact ⟨rfl, fun _ => hmode⟩
  · rw [if_neg hmode, agrees_iff]
    exact ⟨rfl, startInterval_pos o, rfl, hmode⟩

end

end Sys2Proof.Machine.FaultOutputs
end

section
/-! SUPPORT. From one state to another the notice queue stays in order and the outputs in agreement: where nothing they look at
moves, where FOUT is told of what has moved, and through every act of CEVAL (R102, R104, R111, R117, R145, R150). -/

namespace Sys2Proof.Machine.Reporting

open Converter Judge Notices FaultOutputs

/-! ## What NQ and FOUT look at -/

/-- From `s` to `t` the notice queue has stayed in order, and the outputs, their settings and the device phase stand as they
did. -/
structure OutputsStand (s t : State) : Prop where
  queue : InOrder s.nq → InOrder t.nq := by exact fun h => h
  fout : t.fout = s.fout := by rfl
  outA : t.cfg.outA = s.cfg.outA := by rfl
  outB : t.cfg.outB = s.cfg.outB := by rfl
  phase : t.boot.phase = s.boot.phase := by rfl

/-- `s` and `t` are alike to FOUT besides: the same subjects are counted, the same conditions ACTIVE and the same latches set. -/
structure SeenAlike (s t : State) : Prop extends OutputsStand s t where
  counted : ∀ x, t.counted x = s.counted x := by exact fun _ => rfl
  active : ∀ id, (t.cond id).state = .active ↔ (s.cond id).state = .active := by exact fun _ => Iff.rfl
  latch : ∀ id, (t.cond id).latch = (s.cond id).latch := by exact fun _ => rfl

/-- From `s` to `t` the notice queue stays in order, and the outputs stay in agreement provided that `sane`: that a part in hard
reset is in STARTING, which the release of a reset rests on. -/
structure Carried (sane : Prop) (s t : State) : Prop where
  queue : InOrder s.nq → InOrder t.nq
  outputs : sane → OutputsOk s → OutputsOk t

section
variable {sane : Prop} {s t u : State}

theorem OutputsStand.trans (h : OutputsStand s t) (k : OutputsStand t u) : OutputsStand s u :=
  ⟨k.queue ∘ h.queue, k.fout.trans h.fout, k.outA.trans h.outA, k.outB.trans h.outB, k.phase.trans h.phase⟩

theorem SeenAlike.refl (s : State) : SeenAlike s s := {}

theorem SeenAlike.trans (h : SeenAlike s t) (k : SeenAlike t u) : SeenAlike s u :=
  ⟨h.toOutputsStand.trans k.toOutputsStand, fun x => (k.counted x).trans (h.counted x),
    fun id => (k.active id).trans (h.active id), fun id => (k.latch id).trans (h.latch id)⟩

theorem SeenAlike.ite {c : Prop} [Decidable c] (h : SeenAlike s t) (k : SeenAlike s u) :
    SeenAlike s (if c then t else u) := by
  split
  · exact h
  · exact k

theorem SeenAlike.foldl {α : Type} {f : State → α → State} (h : ∀ u x, SeenAlike u (f u x)) (xs : List α) (s : State) :
    SeenAlike s (xs.foldl f s) := by
  induction xs generalizing s with
  | nil => exact .refl s
  | cons x xs ih => exact (h s x).trans (ih (f s x))

theorem Carried.refl (s : State) : Carried sane s s := ⟨id, fun _ => id⟩

theorem Carried.trans (h : Carried sane s t) (k : Carried sane t u) : Carried sane s u :=
  ⟨k.queue ∘ h.queue, fun hs => k.outputs hs ∘ h.outputs hs⟩

theorem Carried.ite {c : Prop} [Decidable c] (h : Carried sane s t) (k : Carried sane s u) :
    Carried sane s (if c then t else u) := by
  split
  · exact h
  · exact k

theorem Carried.foldl {α : Type} {f : State → α → State} (h : ∀ u x, Carried sane u (f u x)) (xs : List α) (s : State) :
    Carried sane s (xs.foldl f s) := by
  induction xs generalizing s with
  | nil => exact .refl s
  | cons x xs ih => exact (h s x).trans (ih (f s x))

/-! ## The health of the outputs (R150) -/

/-- The health of an output rests on the counted subjects, the ACTIVE conditions and the latches alone. -/
theorem SeenAlike.unhealthy (h : SeenAlike s t) (o : OutSettings) : t.unhealthy o = s.unhealthy o := by
  have hsees : ∀ id : CondId, o.sees id.kind (t.cond id) = o.sees id.kind (s.cond id) := fun id => by
    rw [OutSettings.sees, OutSettings.sees, h.latch, decide_eq_decide.mpr (h.active id)]
  simp only [State.unhealthy, h.counted, hsees]

theorem SeenAlike.carried (h : SeenAlike s t) : Carried sane s t where
  queue := h.queue
  outputs _ k :=
    { a := by rw [h.fout, h.outA, h.phase]; exact k.a
      b := by rw [h.fout, h.outB, h.phase]; exact k.b
      health_a := fun hp => by rw [h.fout, h.outA, h.unhealthy]; exact k.health_a (h.phase ▸ hp)
      health_b := fun hp => by rw [h.fout, h.outB, h.unhealthy]; exact k.health_b (h.phase ▸ hp) }

/-- FOUT told its health agrees with whatever has moved. -/
theorem carried_told (h : OutputsStand s t) : Carried sane s t.reevalOutputs where
  queue := h.queue
  outputs _ k := by
    rw [State.reevalOutputs_eq_tellOutputs]
    exact
      { a := agrees_told (by rw [h.fout, h.outA]; exact h.phase ▸ k.a) _ _
        b := agrees_told (by rw [h.fout, h.outB]; exact h.phase ▸ k.b) _ _
        health_a := fun _ => rfl
        health_b := fun _ => rfl }

/-! ## Notices (R123, R124, R145, R148) -/

/-- An act that writes the notice queue alone and keeps it in order. -/
theorem seenAlike_withNq {nq : NoticeQueue} (h : InOrder s.nq → InOrder nq) : SeenAlike s { s with nq := nq } :=
  { queue := h }

theorem seenAlike_notify (s : State) (x : Subject) (k : NoticeKind) (ev : Event) (cause : Option Cause)
    (value : Option Nat) (test : Bool) : SeenAlike s (s.notify x k ev cause value test) :=
  seenAlike_withNq fun h => h.place _

theorem seenAlike_notifyCond (s : State) (id : CondId) (ev : Event) (cause : Option Cause) (value : Option Nat)
    (test : Bool) : SeenAlike s (s.notifyCond id ev cause value test) := .ite (seenAlike_notify ..) (.refl s)

theorem seenAlike_announceActive (s : State) (x : Subject) : SeenAlike s (s.announceActive x) :=
  .foldl (fun u _ => .ite (seenAlike_notify ..) (.refl u)) _ _

theorem seenAlike_announceEntries (s before : State) : SeenAlike s (s.announceEntries before) :=
  .foldl (fun u x => .ite (seenAlike_announceActive u x) (.refl u)) _ _

theorem seenAlike_dropNotices (s : State) (x : Subject) : SeenAlike s (s.dropNotices x) :=
  seenAlike_withNq fun h => h.dropSubject x

/-! ## Condition records (R102, R104, R111, R118) -/

theorem outputsStand_setCond (s : State) (id : CondId) (c : Cond) : OutputsStand s (s.setCond id c) := {}

/-- A record written that is ACTIVE where it was and latched where it was. -/
theorem seenAlike_setCond (s : State) (id : CondId) (c : Cond) (hactive : c.state = .active ↔ (s.cond id).state = .active)
    (hlatch : c.latch = (s.cond id).latch) : SeenAlike s (s.setCond id c) where
  active j := by
    rw [State.cond_setCond]
    split
    · next hj => rw [hj]; exact hactive
    · rfl
  latch j := by
    rw [State.cond_setCond]
    split
    · next hj => rw [hj]; exact hlatch
    · rfl

/-- A move of a condition tells FOUT where the condition enters ACTIVE or leaves it; another moves nothing FOUT looks at. -/
theorem carried_moveCond (s : State) (id : CondId) (new : CondState) (cause : Option Cause) (value : Option Nat)
    (test : Bool) : Carried sane s (s.moveCond id new cause value test) := by
  have htold : ∀ ev, Carried sane s
      ((s.setCond id ((s.cond id).move new s.seq.round)).notifyCond id ev cause value test).reevalOutputs := fun _ =>
    carried_told ((outputsStand_setCond ..).trans (seenAlike_notifyCond ..).toOutputsStand)
  unfold State.moveCond
  dsimp only
  split
  · exact .refl s
  · split
    · exact htold .active
    · next hnew =>
      split
      · exact htold .clear
      · next hold =>
        exact (seenAlike_setCond s id _ (iff_of_false hnew hold) (by simp [Cond.move, hnew])).carried

theorem carried_emptyCond (s : State) (id : CondId) (cause : Option Cause) : Carried sane s (s.emptyCond id cause) :=
  (seenAlike_setCond s id { s.cond id with window := [] } Iff.rfl rfl).carried.trans (carried_moveCond ..)

theorem carried_attributeLine (s : State) (l : LineId) : Carried sane s (s.attributeLine l) :=
  .ite (.refl s) (carried_emptyCond ..)

theorem carried_attributeFed (s : State) (a : AmpId) : Carried sane s (s.attributeFed a) :=
  .foldl (fun u l => .ite (carried_attributeLine u l) (.refl u)) _ _

theorem seenAlike_setFirstCount (s : State) (a : AmpId) (mark : Bool) : SeenAlike s (s.setFirstCount a mark) := {}

theorem carried_afterMove (s : State) (id : CondId) (old new : CondState) : Carried sane s (s.afterMove id old new) := by
  by_cases h : ∃ a, id = .amp a .nopilot
  · obtain ⟨a, rfl⟩ := h
    exact .ite (carried_attributeFed s a) (.ite (seenAlike_setFirstCount s a true).carried (.refl s))
  · rw [afterMove_other (fun a ha => h ⟨a, ha⟩)]
    exact .refl s

theorem carried_evaluate (s : State) (id : CondId) (value : Option Nat) (test : Bool) :
    Carried sane s (s.evaluate id value test) :=
  (carried_moveCond ..).trans (carried_afterMove ..)

theorem seenAlike_push (s : State) (x : Subject) : SeenAlike s (s.push x) := by
  rw [s.push_spec x]
  exact {}

theorem carried_vote (s : State) (id : CondId) (judged : Vote) (value : Option Nat) :
    Carried sane s (s.vote id judged value) := by
  have hjudged : Carried sane s
      ((s.setCond id ((s.cond id).withVote judged)).evaluate id value (s.cond id).injection.isSome) :=
    (seenAlike_setCond s id ((s.cond id).withVote judged) Iff.rfl rfl).carried.trans (carried_evaluate ..)
  exact .ite (hjudged.trans (seenAlike_push ..).carried) hjudged

theorem carried_reevaluate (s : State) (id : CondId) : Carried sane s (s.reevaluate id) := by
  obtain ⟨heq, -⟩ | heq := reevaluate_cases s id
  · rw [heq]
    exact (seenAlike_setCond s id { s.cond id with window := [] } Iff.rfl rfl).carried
  · rw [heq]
    exact carried_evaluate ..

theorem carried_reevaluateAll (s : State) (ids : List CondId) : Carried sane s (s.reevaluateAll ids) :=
  .foldl (fun u id => .ite (.refl u) (carried_reevaluate u id)) _ _

theorem carried_emptyRef (s : State) (l : LineId) : Carried sane s (s.emptyRef l) :=
  (carried_emptyCond ..).trans (carried_emptyCond ..)

end

end Sys2Proof.Machine.Reporting
end

section
/-! SUPPORT. The notice queue in order and the outputs in agreement through LEARN, the completions of LCONV, the grants of SEQ
and the tests of EBRG (R27, R63, R69, R80 to R85, R133 to R139, R152). -/

namespace Sys2Proof.Machine.Reporting
-- Many short proofs elaborated at once use up the threads of a small machine.
set_option Elab.async false

open Converter Scan Judge FaultOutputs

section
variable {sane : Prop} {s t : State}

/-! ## LEARN (R133 to R139) -/

theorem seenAlike_setLearn (s : State) (l : LineId) (r : Option LearnRec) : SeenAlike s (s.setLearn l r) := {}

/-- A reference written moves no line's state, amplifier or zone. -/
theorem seenAlike_setZref (s : State) (l : LineId) (z : Option Nat) : SeenAlike s (s.setZref l z) := by
  have hline : ∀ {β : Type} (f : LineEntry → β), (∀ e : LineEntry, f { e with zref := z } = f e) →
      ∀ j, f ((s.setZref l z).line j) = f (s.line j) := fun f hf j => by
    rw [line_setZref]
    split
    · next hj => rw [hj, hf]
    · rfl
  have hstanding : SameStanding s (s.setZref l z) :=
    ⟨hline _ fun _ => rfl, hline _ fun _ => rfl, hline _ fun _ => rfl, fun _ => rfl, rfl, rfl⟩
  exact { counted := hstanding.counted }

theorem seenAlike_failLearning (s : State) (l : LineId) (cause : Cause) : SeenAlike s (s.failLearning l cause) :=
  (seenAlike_setLearn ..).trans (seenAlike_notify ..)

theorem seenAlike_learnWaits (s : State) (l : LineId) (r : LearnRec) : SeenAlike s (s.learnWaits l r) :=
  .ite (seenAlike_failLearning ..) (seenAlike_setLearn ..)

theorem carried_completeLearning (s : State) (l : LineId) (r : LearnRec) :
    Carried sane s (s.completeLearning l r) := by
  have hdone : ∀ (u : State) (z : Option Nat),
      SeenAlike u ((u.setLearn l none).notify (.line l) .learn .learnDone none z false) := fun _ _ =>
    (seenAlike_setLearn ..).trans (seenAlike_notify ..)
  exact .ite ((seenAlike_setZref ..).carried.trans ((carried_emptyRef ..).trans (hdone ..).carried))
    (seenAlike_failLearning ..).carried

theorem carried_handLearn (s : State) (l : LineId) (res : LineResult) : Carried sane s (s.handLearn l res) := by
  unfold State.handLearn
  split
  · exact .refl s
  · dsimp only
    split
    · exact (seenAlike_failLearning ..).carried
    · exact (seenAlike_failLearning ..).carried
    · exact (seenAlike_failLearning ..).carried
    · exact .ite (carried_completeLearning ..) (seenAlike_learnWaits ..).carried
    · exact (seenAlike_learnWaits ..).carried

/-! ## Completions of LCONV (R27, R95, R96, R119) -/

theorem seenAlike_releaseLconv (s : State) : SeenAlike s s.releaseLconv := {}

theorem seenAlike_enterMinMax (s : State) (l : LineId) (r : LineResult) : SeenAlike s (s.enterMinMax l r) := by
  unfold State.enterMinMax
  split
  · exact .ite {} (.refl s)
  · exact .refl s

theorem carried_voteLine (s : State) (l : LineId) (r : LineResult) : Carried sane s (s.voteLine l r) := by
  unfold State.voteLine
  split
  · exact .foldl (fun u k => carried_vote u ..) _ _
  · exact .refl s

theorem carried_moveDegraded (s : State) (l : LineId) (status : MeasStatus) :
    Carried sane s (s.moveDegraded l status) := by
  have hcount : SeenAlike s { s with recs := { s.recs with
      maskedRun := s.recs.maskedRun.set l (maskedRunAfter s.recs.maskedRun[l] status) } } := {}
  exact hcount.carried.trans (.ite (carried_moveCond ..) (.ite (carried_moveCond ..) (.refl _)))

theorem carried_completeLine (s : State) (l : LineId) (m : Meas) : Carried sane s (s.completeLine l m) := by
  have hset : ∀ r, SeenAlike s ((s.setLineRes l r).enterMinMax l r) := fun r =>
    SeenAlike.trans (t := s.setLineRes l r) {} (seenAlike_enterMinMax ..)
  exact (hset _).carried.trans ((carried_voteLine ..).trans ((carried_moveDegraded ..).trans
    ((carried_handLearn ..).trans (seenAlike_releaseLconv _).carried)))

theorem carried_voteAmp (s : State) (a : AmpId) (k : AmpKind) (judged : Vote) (value : Option Nat) :
    Carried sane s (s.voteAmp a k judged value) := by
  have hmark : SeenAlike s (s.markAmp a (s.forces (.amp a k))) := .ite {} (.refl s)
  exact hmark.carried.trans (carried_vote ..)

theorem carried_votePilot (s : State) (a : AmpId) (r : AmpResult) : Carried sane s (s.votePilot a r) := by
  unfold State.votePilot
  split
  · exact (carried_voteAmp ..).trans (carried_voteAmp ..)
  · exact .refl s

theorem carried_voteFreq (s : State) (a : AmpId) (r : AmpResult) : Carried sane s (s.voteFreq a r) := by
  unfold State.voteFreq
  split
  · exact .refl s
  · exact .ite (.refl s) (.ite (seenAlike_setFirstCount ..).carried (carried_voteAmp ..))

theorem carried_completeAmp (s : State) (a : AmpId) (m : Meas) (th su : Bool) :
    Carried sane s (s.completeAmp a m th su) := by
  have hset : SeenAlike s (s.setAmpRes a (s.ampRecord a m th su)) := {}
  exact hset.carried.trans ((carried_votePilot ..).trans ((carried_voteFreq ..).trans
    (((carried_voteAmp ..).trans (carried_voteAmp ..)).trans (seenAlike_releaseLconv _).carried)))

theorem carried_completeRef (s : State) (m : Meas) : Carried sane s (s.completeRef m) := by
  have hset : SeenAlike s { s with recs := { s.recs with refRes := s.refRecord m } } := {}
  exact hset.carried.trans ((carried_vote ..).trans (seenAlike_releaseLconv _).carried)

theorem carried_complete (s : State) (m : Meas) (th su : Bool) : Carried sane s (s.complete m th su) := by
  unfold State.complete
  split
  · exact carried_completeLine ..
  · exact carried_completeAmp ..
  · exact carried_completeRef ..

/-! ## Grants and rounds (R61, R63, R69, R152) -/

theorem seenAlike_startRound (s : State) : SeenAlike s s.startRound := {}

/-- The end of a round moves the outputs' start counts, and the health they were told stays. -/
theorem carried_countRoundOutputs (s : State) : Carried sane s s.countRoundOutputs where
  queue := fun h => h
  outputs _ k :=
    { a := agrees_countRound k.a _
      b := agrees_countRound k.b _
      health_a := fun hp => (countRound_unhealthy ..).trans (k.health_a hp)
      health_b := fun hp => (countRound_unhealthy ..).trans (k.health_b hp) }

theorem carried_endRound (s : State) : Carried sane s s.endRound := by
  have hclosed : SeenAlike s s.closeRound := {}
  have hcounted : Carried sane s s.closeRound.countRoundOutputs := hclosed.carried.trans (carried_countRoundOutputs _)
  by_cases hlate : s.roundIsLate = true
  · rw [endRound_late hlate]
    exact hcounted.trans (seenAlike_startRound _).carried
  · rw [endRound_early hlate]
    exact hcounted.trans (SeenAlike.carried {})

theorem carried_walkRing (es : List RingEntry) (s : State) : Carried sane s (State.walkRing es s) := by
  induction es generalizing s with
  | nil => exact carried_endRound s
  | cons e es ih =>
    have hskip : ∀ k, SeenAlike s { s with seq := s.seq.skip k } := fun _ => {}
    have hgrant : SeenAlike s (s.grantSlot e) := {}
    exact .ite ((hskip _).carried.trans (ih _)) (.ite ((hskip _).carried.trans (ih _)) hgrant.carried)

theorem carried_grantDecision (s : State) : Carried sane s s.grantDecision := by
  unfold State.grantDecision
  split
  · split
    · exact SeenAlike.carried {}
    · exact carried_walkRing _ s
  · exact .refl s

/-! ## EBRG (R80 to R85) -/

theorem seenAlike_withEbrg (h : t = { s with ebrg := t.ebrg }) : SeenAlike s t := by
  rw [h]
  exact {}

theorem seenAlike_choose (s : State) : SeenAlike s s.choose := seenAlike_withEbrg (choose_frame s)

theorem seenAlike_earthRetry (s : State) : SeenAlike s s.earthRetry := seenAlike_withEbrg (earthRetry_frame s)

theorem seenAlike_earthAfterOff (s : State) (l : LineId) : SeenAlike s (s.earthAfterOff l) :=
  seenAlike_withEbrg (earthAfterOff_frame s l)

theorem carried_freeReport (s : State) (order : RaceOrder) : Carried sane s (s.freeReport order) := by
  cases order with
  | earthFirst => exact (seenAlike_earthRetry s).carried.trans (carried_grantDecision _)
  | seqFirst => exact (carried_grantDecision s).trans (seenAlike_earthRetry _).carried

theorem carried_endSampleBlock (s : State) (m : Meas) (th su : Bool) (order : RaceOrder) :
    Carried sane s (s.endSampleBlock m th su order) :=
  .ite ((carried_complete ..).trans (carried_freeReport ..)) (SeenAlike.carried {})

theorem carried_endSoak (s : State) (test : EarthTest) (bias : Nat) : Carried sane s (s.endSoak test bias) := by
  have hmode : ∀ (u : State) (m : EbrgMode), SeenAlike u (u.setMode m) := fun _ _ => {}
  have hstored : SeenAlike s { s with ebrg := { s.ebrg with lastBias := some bias } } := {}
  have hfailed : ∀ r, SeenAlike s
      ((({ s with ebrg := { s.ebrg with lastBias := some bias } } : State).setMode .idle).setEarthRes test.line r) :=
    fun _ => {}
  exact .ite (hstored.carried.trans ((carried_vote ..).trans (hmode ..).carried))
    ((hfailed _).carried.trans ((carried_vote ..).trans (seenAlike_choose _).carried))

theorem carried_voteEarth (s : State) (l : LineId) (res : EarthResult) : Carried sane s (s.voteEarth l res) := by
  unfold State.voteEarth
  split
  · have hmark : ∀ (c : Bool) r, SeenAlike s (if c then s.setEarthRes l r else s) := fun _ _ => .ite {} (.refl s)
    exact (hmark ..).carried.trans (carried_vote ..)
  · exact .refl s

theorem carried_endLeakageBlock (s : State) (test : EarthTest) : Carried sane s (s.endLeakageBlock test) := by
  have hset : SeenAlike s (s.setEarthRes test.line (s.earthRecord test)) := {}
  have hidle : ∀ u : State, SeenAlike u (u.setMode .idle).choose := fun u =>
    SeenAlike.trans (t := u.setMode .idle) {} (seenAlike_choose _)
  exact .ite (hset.carried.trans ((carried_voteEarth ..).trans (hidle _).carried)) (SeenAlike.carried {})

end

end Sys2Proof.Machine.Reporting
end

section
/-! SUPPORT. The notice queue in order and the outputs in agreement through the setting requests, the actions and the restarts
(R2, R9, R14, R122, R126, R132, R147, R149, R153, R167 to R171). -/

namespace Sys2Proof.Machine.Reporting
-- Many short proofs elaborated at once use up the threads of a small machine.
set_option Elab.async false

open Converter Scan Judge Notices FaultOutputs

/-! ## The outputs by name -/

/-- The agreement of the fault outputs, said of each. -/
theorem outputsOk_iff (s : State) :
    OutputsOk s ↔ ∀ o, (s.fout.get o).Agrees (s.cfg.out o) s.boot.phase
      ∧ (s.boot.phase = .running → (s.fout.get o).unhealthy = s.unhealthy (s.cfg.out o)) := by
  constructor
  · intro h o
    cases o with
    | fltA => exact ⟨h.a, h.health_a⟩
    | fltB => exact ⟨h.b, h.health_b⟩
  · intro h
    obtain ⟨ha, hhealthA⟩ := h .fltA
    obtain ⟨hb, hhealthB⟩ := h .fltB
    exact ⟨ha, hb, hhealthA, hhealthB⟩

section
variable {sane : Prop} {s t : State}

/-! ## SET-LINE and SET-AMP (R5, R6, R7, R9) -/

theorem OutputsStand.foldl {α : Type} {f : State → α → State} (h : ∀ u x, OutputsStand u (f u x)) (xs : List α)
    (s : State) : OutputsStand s (xs.foldl f s) := by
  induction xs generalizing s with
  | nil => exact {}
  | cons x xs ih => exact (h s x).trans (ih (f s x))

theorem OutputsStand.ite {u : State} {c : Prop} [Decidable c] (h : OutputsStand s t) (k : OutputsStand s u) :
    OutputsStand s (if c then t else u) := by
  split
  · exact h
  · exact k

theorem outputsStand_turnOffConds (s : State) (x : Subject) : OutputsStand s (s.turnOffConds x) :=
  .foldl (fun _ _ => outputsStand_setCond ..) _ _

/-- The entries of a subject that is set OFF leave the two queues. -/
theorem outputsStand_dropped (s : State) (x : Subject) (e : RingEntry) :
    OutputsStand s ((s.dropNotices x).dropConfirm e) :=
  (seenAlike_dropNotices s x).toOutputsStand.trans {}

theorem outputsStand_lineOffEffects (s : State) (l : LineId) : OutputsStand s (s.lineOffEffects l) := by
  have hzero : ∀ u : State, OutputsStand u (u.zeroMaskedRun l) := fun _ => {}
  exact (outputsStand_turnOffConds s (.line l)).trans ((hzero _).trans
    ((outputsStand_dropped ..).trans (seenAlike_setLearn ..).toOutputsStand))

theorem outputsStand_reactLineState (s : State) (l : LineId) (old new : SubjState) :
    OutputsStand s (s.reactLineState l old new) :=
  .ite (outputsStand_lineOffEffects s l) (SeenAlike.ite (seenAlike_announceActive ..) (.refl s)).toOutputsStand

theorem carried_lineAssigned (c : LineChange) (s : State) : Carried sane s (lineAssigned c s) := by
  have hentered : OutputsStand s (lineEntered c s) := {}
  have hmark : ∀ u : State, SeenAlike u u.markRebuild := fun u => .ite {} (.refl u)
  have hamp : ∀ u : State, Carried sane u (u.reactLineAmp c.line c.amp.isSome) := fun u =>
    .ite ((hmark u).carried.trans (.ite (carried_attributeLine ..) (.refl _))) (.refl u)
  exact (carried_told (hentered.trans (outputsStand_reactLineState ..))).trans
    ((hamp _).trans (carried_told (seenAlike_announceEntries ..).toOutputsStand))

theorem carried_reactZref (s : State) (l : LineId) (written : Option (Option Nat)) (old : Option Nat) :
    Carried sane s (s.reactZref l written old) := by
  unfold State.reactZref
  split
  · exact .refl s
  · exact carried_emptyRef ..
  · exact .ite (.refl s) (carried_emptyRef ..)

theorem carried_blocksAfterLineOff (s : State) (l : LineId) (order : RaceOrder) :
    Carried sane s (s.blocksAfterLineOff l order) := by
  unfold State.blocksAfterLineOff
  split
  · cases order with
    | earthFirst =>
      exact (seenAlike_releaseLconv s).carried.trans
        ((seenAlike_earthAfterOff ..).carried.trans (carried_grantDecision _))
    | seqFirst =>
      exact (seenAlike_releaseLconv s).carried.trans
        ((carried_grantDecision _).trans (seenAlike_earthAfterOff ..).carried)
  · exact .ite (seenAlike_earthAfterOff ..).carried (.refl s)

theorem carried_applySetLine (c : LineChange) (order : RaceOrder) (s : State) :
    Carried sane s (applySetLine c order s) := by
  have hblocks : ∀ (u : State) (old new : SubjState), Carried sane u (u.reactBlocks c.line old new order) :=
    fun u _ _ => .ite (carried_blocksAfterLineOff ..) (.ite (.ite (seenAlike_choose u).carried (.refl u)) (.refl u))
  rw [applySetLine_stages]
  exact (carried_lineAssigned c s).trans ((carried_reevaluateAll ..).trans ((carried_reactZref ..).trans (hblocks ..)))

theorem carried_setLineAct (order : RaceOrder) (c : LineChange) (s : State) :
    Carried sane s (setLineAct order c s).1 := by
  unfold setLineAct
  split
  · exact .refl s
  · exact carried_applySetLine ..

theorem outputsStand_ampOffEffects (s : State) (a : AmpId) : OutputsStand s (s.ampOffEffects a) :=
  (outputsStand_turnOffConds s (.amp a)).trans (outputsStand_dropped ..)

theorem outputsStand_reactAmpState (s : State) (a : AmpId) (old new : SubjState) :
    OutputsStand s (s.reactAmpState a old new) :=
  .ite (outputsStand_ampOffEffects s a)
    (SeenAlike.ite (seenAlike_setFirstCount ..) (.ite (seenAlike_announceActive ..) (.refl s))).toOutputsStand

theorem carried_applySetAmp (c : AmpChange) (order : RaceOrder) (s : State) :
    Carried sane s (applySetAmp c order s) := by
  have hentered : OutputsStand s (ampEntered c s) := {}
  have habandon : ∀ (u : State) (old new : SubjState), Carried sane u (u.abandonAmp c.amp old new order) := fun u _ _ =>
    .ite ((seenAlike_releaseLconv u).carried.trans (carried_freeReport ..)) (.refl u)
  exact (carried_told (hentered.trans (outputsStand_reactAmpState ..))).trans (habandon ..)

/-! ## The other setting requests (R10, R12, R19, R72, R87, R153) -/

theorem carried_applySetAmpWide (c : AmpWideChange) (s : State) : Carried sane s (applySetAmpWide c s) := by
  have hentered : SeenAlike s (wideEntered c s) := {}
  rw [applySetAmpWide_stages]
  exact .ite hentered.carried (hentered.carried.trans (carried_reevaluateAll ..))

theorem carried_applySetProfile (c : ProfileChange) (s : State) : Carried sane s (applySetProfile c s) := by
  have hentered : SeenAlike s (profileEntered c s) := {}
  exact hentered.carried.trans (carried_reevaluateAll ..)

theorem seenAlike_applySetScan (c : ScanChange) (s : State) : SeenAlike s (applySetScan c s) := by
  rw [applySetScan_eq]
  exact {}

theorem carried_applySetPilot (d : Nat) (order : RaceOrder) (s : State) : Carried sane s (applySetPilot d order s) := by
  by_cases hd : s.cfg.pilotD = d
  · rw [applySetPilot_same order hd]
    exact SeenAlike.carried {}
  · have hset : SeenAlike s (pilotSet s d) := {}
    cases hl : s.lconv with
    | none =>
      rw [applySetPilot_idle order hd hl]
      exact hset.carried
    | some m =>
      rw [applySetPilot_measuring order hd (by rw [hl]; rfl)]
      exact (hset.trans (seenAlike_releaseLconv _)).carried.trans (carried_freeReport ..)

theorem seenAlike_applySetEarth (c : EarthChange) (s : State) : SeenAlike s (applySetEarth c s) := by
  rw [EarthBridge.applySetEarth_eq]
  exact {}

/-- SET-OUTPUT in RUNNING leaves both outputs told, and the one named agrees with its new settings (R152, R153). -/
theorem carried_applySetOutput (c : OutputChange) (hrunning : s.boot.phase = .running) :
    Carried sane s (applySetOutput c s) := by
  let u : State := ({ s with cfg := outputSet c s.cfg, fout := foutReacted c s } : State).advanced
  have hhealth : ∀ o, u.unhealthy o = s.unhealthy o := fun o => unhealthy_setOut s c.out _ o (foutReacted c s)
  rw [applySetOutput_eq]
  refine ⟨fun h => h, fun _ h => (outputsOk_iff _).mpr fun o => ?_⟩
  obtain ⟨hagrees, -⟩ := (outputsOk_iff s).mp h o
  change ((foutReacted c s).get o).Agrees ((outputSet c s.cfg).out o) s.boot.phase
    ∧ (s.boot.phase = .running → ((foutReacted c s).get o).unhealthy = u.unhealthy ((outputSet c s.cfg).out o))
  rw [hrunning] at hagrees ⊢
  by_cases ho : o = c.out
  · subst ho
    rw [hhealth, get_foutReacted_same, outputSet, Settings.out_setOut_same]
    exact ⟨agrees_react hagrees .., fun _ => react_unhealthy⟩
  · rw [hhealth, get_foutReacted_ne s ho, outputSet, Settings.out_setOut_ne _ _ _ _ ho]
    exact ⟨agrees_told hagrees .., fun _ => rfl⟩

/-! ## The reads and the actions (R14, R56, R122, R126, R132, R139, R147, R162, R171) -/

theorem seenAlike_clearStatusItems (s : State) : SeenAlike s s.clearStatusItems where
  queue h := h.sublist (List.Sublist.refl _)

theorem seenAlike_pollAct (minimum : Level) (s : State) : SeenAlike s (pollAct minimum s).1 := by
  unfold pollAct
  split
  · exact seenAlike_withNq fun h => h.take _
  · exact .refl s

theorem carried_learnAct (c : LineId × Nat × Bool) (s : State) : Carried sane s (learnAct c s).1 := by
  unfold learnAct
  dsimp only
  split
  · exact .refl s
  · split
    · exact .refl s
    · dsimp only
      exact (seenAlike_setLearn ..).carried.trans (carried_emptyRef ..)

theorem seenAlike_abortLearnAct (l : LineId) (s : State) : SeenAlike s (abortLearnAct l s).1 := by
  unfold abortLearnAct
  split
  · exact .refl s
  · exact seenAlike_failLearning ..

theorem seenAlike_withInjection (s : State) (id : CondId) (injection : Option Nat) :
    SeenAlike s (s.setCond id { s.cond id with injection := injection }) := seenAlike_setCond s id _ Iff.rfl rfl

theorem seenAlike_testInjectAct (c : Injection) (s : State) : SeenAlike s (testInjectAct c s).1 := by
  have hdrop : SeenAlike s (s.dropInjections c.subject) := .foldl (fun u id => seenAlike_withInjection u id none) _ _
  unfold testInjectAct
  split
  · exact .refl s
  · exact .ite hdrop (hdrop.trans (seenAlike_withInjection ..))

theorem carried_clearLatchAct (xs : List Subject) (s : State) : Carried sane s (clearLatchAct xs s).1 :=
  carried_told (.foldl (fun _ _ => .ite {} (outputsStand_setCond ..)) _ _)

theorem seenAlike_clearMinmaxAct (ls : List LineId) (s : State) : SeenAlike s (clearMinmaxAct ls s).1 :=
  .foldl (fun u l => ({} : SeenAlike u (u.clearMinMax l))) ls s

theorem carried_emergencyAct (zones : BitVec 16) (s : State) : Carried sane s (emergencyAct zones s).1 := by
  have hset : OutputsStand s { s with zones := zones } := {}
  exact carried_told (hset.trans (seenAlike_announceEntries ..).toOutputsStand)

theorem seenAlike_saveImageAct (s : State) : SeenAlike s (saveImageAct s).1 := by
  unfold saveImageAct
  split
  · exact .refl s
  · exact {}

theorem seenAlike_restartUnitAct (s : State) : SeenAlike s (restartUnitAct s).1 := by
  unfold restartUnitAct
  split <;> exact .refl s

/-! ## Restarts (R149, R167 to R170) -/

/-- A start-up hands over a RESTART notice and perhaps CONFIG's, and starts both outputs with the health they have then. -/
theorem carried_startUp (u s : State) (cause : RestartCause) (config : Bool) :
    Carried sane u (s.startUp cause config) := by
  have hstarted := Startup.startedUp_startUp s cause config
  generalize s.startUp cause config = t at hstarted
  refine ⟨fun _ => ?_, fun _ _ => ?_⟩
  · obtain ⟨restart, -, hkind, -, -, -, -, hnq⟩ := hstarted.notices
    rw [hnq]
    cases config with
    | false => exact ⟨by simp, List.nodup_singleton _⟩
    | true => exact ⟨by simp, by simp [pairOf, hkind]⟩
  · have hsettings := hstarted.settings
    have houtputs := hstarted.outputs
    have hA : t.cfg.outA = s.cfg.outA := by rw [hsettings]
    have hB : t.cfg.outB = s.cfg.outB := by rw [hsettings]
    refine ⟨?_, ?_, fun _ => ?_, fun _ => ?_⟩
    · rw [houtputs, hstarted.phase, hA]
      exact agrees_outputStarted ..
    · rw [houtputs, hstarted.phase, hB]
      exact agrees_outputStarted ..
    · rw [houtputs, hA]
    · rw [houtputs, hB]

/-- The start of a hard reset stops both outputs; the notices stay until the Clear step. -/
theorem carried_hardStop (s : State) (power : Power) : Carried sane s { s.hardStop with power := power } := by
  unfold State.hardStop
  obtain ⟨memory, freeCount, heq⟩ := abandonSave_eq s
  rw [heq]
  exact ⟨fun h => h, fun _ _ => ⟨agrees_stopped .., agrees_stopped .., nofun, nofun⟩⟩

/-- In STARTING the outputs look at no condition. -/
theorem carried_of_starting (h : OutputsStand s t) (hp : sane → s.boot.phase = .starting) : Carried sane s t where
  queue := h.queue
  outputs hs k := by
    have hphase := h.phase.trans (hp hs)
    exact
      { a := by rw [h.fout, h.outA, h.phase]; exact k.a
        b := by rw [h.fout, h.outB, h.phase]; exact k.b
        health_a := fun hrun => nomatch hphase.symm.trans hrun
        health_b := fun hrun => nomatch hphase.symm.trans hrun }

theorem carried_release (cause : RestartCause) (straps : Straps) (hp : sane → s.boot.phase = .starting) :
    Carried sane s (s.release cause straps) := by
  unfold State.release
  dsimp only
  split
  · exact carried_startUp ..
  · exact carried_of_starting {} hp

theorem carried_finishLoad (s : State) (cause : RestartCause) (loaded : Option Settings) :
    Carried sane s (s.finishLoad cause loaded) := by
  cases loaded with
  | some cfg => exact carried_startUp ..
  | none => exact carried_startUp ..

theorem carried_restartMultiAct (payload : List Byte) (s : State) : Carried sane s (restartMultiAct payload s) := by
  unfold restartMultiAct
  split
  · exact carried_startUp ..
  · exact .refl s

theorem carried_saveDone (s : State) (image : List Byte) : Carried sane s (s.saveDone image) := by
  have hsaved : SeenAlike s { s with
      memory := writeBytes s.memory 0 image, boot := { s.boot with save := .done, saveCopy := none } } := {}
  exact .ite (hsaved.carried.trans (carried_moveCond ..)) hsaved.carried

theorem seenAlike_saveFailed (s : State) (image : List Byte) : SeenAlike s (s.saveFailed image) := {}

/-! ## The EVAC filter and the pulse phases (R15, R16, R151) -/

theorem carried_filterEvac (s : State) : Carried sane s s.filterEvac := by
  have hset : OutputsStand s { s with evac := { s.evac with since := none, filtered := s.evac.pinLow } } := {}
  exact carried_told (hset.trans (seenAlike_announceEntries ..).toOutputsStand)

theorem carried_nextPulse (o : OutputId) {ph : Pulse} (hpulse : (s.fout.get o).pulse = some ph) (n : Nat) :
    Carried sane s
      { s.waitUntil n with fout := s.fout.set o { s.fout.get o with pulse := some ph.next } } := by
  refine ⟨fun h => h, fun _ h => (outputsOk_iff _).mpr fun p => ?_⟩
  obtain ⟨hagrees, hhealth⟩ := (outputsOk_iff s).mp h p
  change ((s.fout.set o { s.fout.get o with pulse := some ph.next }).get p).Agrees (s.cfg.out p) s.boot.phase
    ∧ (s.boot.phase = .running → ((s.fout.set o { s.fout.get o with pulse := some ph.next }).get p).unhealthy
        = s.unhealthy (s.cfg.out p))
  by_cases hp : p = o
  · subst hp
    rw [Fout.get_set_same]
    exact ⟨agrees_withPulse hagrees hpulse _, hhealth⟩
  · rw [Fout.get_set_ne _ _ _ _ hp]
    exact ⟨hagrees, hhealth⟩

end

end Sys2Proof.Machine.Reporting
end

section
/-! SUPPORT. The notice queue in order and the outputs in agreement through the arrival of a frame and through every command, and
the obligations that every step keeps the two (R145, R146, R149 to R152). -/

namespace Sys2Proof.Machine.Reporting
-- Many short proofs elaborated at once use up the threads of a small machine.
set_option Elab.async false

open Converter Judge Notices FaultOutputs

section
variable {sane : Prop} {s t u : State}

/-! ## The arrival of a request (R155 to R158) -/

theorem seenAlike_setPort (s : State) (p : Port) (x : PortState) : SeenAlike s (s.setPort p x) := by
  cases p <;> exact {}

/-- The arrival of a request carries what its acts carry; every kind but IDENTIFY is acted on in RUNNING alone. -/
theorem carried_deliver (s : State) (p : Port) (dest kind : Byte) (payload : List Byte) {unit : State → State × Answer}
    {multi : State → State}
    (hunit : ∀ u, (kind ≠ identifyKind → u.boot.phase = .running) → Carried sane u (unit u).1)
    (hmulti : ∀ u, Carried sane u (multi u)) : Carried sane s (s.deliver p dest kind payload unit multi) := by
  have hset : ∀ (u : State) (x : PortState), Carried sane u (u.setPort p x) := fun u x => (seenAlike_setPort u p x).carried
  have hunitTaken : Carried sane s ((s.hunt p).takeUnit p kind unit) := by
    refine (hset s { s.port p with inFrame := false }).trans (t := s.hunt p) ?_
    unfold State.takeUnit
    split
    · exact hset ..
    · next h =>
      refine (hunit (s.hunt p) fun hkind => ?_).trans (hset ..)
      cases hphase : (s.hunt p).boot.phase with
      | starting => exact absurd ⟨hphase, hkind⟩ h
      | running => rfl
  unfold State.deliver
  refine .ite (.ite (hset ..) ?_) (.refl s)
  split
  · exact hset ..
  · exact .ite (hset ..) hunitTaken
  · exact .ite (hset ..) ((hset s _).trans (hmulti _))

theorem carried_noPayload (payload : List Byte) {act : State → State × Answer} (h : Carried sane u (act u).1) :
    Carried sane u (noPayload payload u act).1 := by
  unfold noPayload
  split
  · exact h
  · exact .refl u

theorem carried_parsed {α : Type} {x : Option α} {act : α → State → State × Answer}
    (h : ∀ y, Carried sane u (act y u).1) : Carried sane u (parsed x u act).1 := by
  cases x with
  | none => exact .refl u
  | some y => exact h y

/-! ## Every command -/

theorem carried_next (h : (.next u : Host.Outcome State Fault Refusal) = .next t) (hu : Carried sane s u) :
    Carried sane s t := by
  cases h
  exact hu

/-- A request without operands. -/
theorem carried_plain {p : Port} {dest kind : Byte} {payload : List Byte} {act : State → State × Answer}
    (hexec : (.next (s.deliverUnit p dest kind payload fun u => noPayload payload u act)
      : Host.Outcome State Fault Refusal) = .next t)
    (hact : ∀ u, SeenAlike u (act u).1) : Carried sane s t :=
  carried_next hexec (carried_deliver _ _ _ _ _ (fun u _ => carried_noPayload payload (hact u).carried) .refl)

/-- A request whose payload parses into `α`. -/
theorem carried_operands {α : Type} {p : Port} {dest kind : Byte} {payload : List Byte} {x : Option α}
    {act : α → State → State × Answer}
    (hexec : (.next (s.deliverUnit p dest kind payload fun u => parsed x u act)
      : Host.Outcome State Fault Refusal) = .next t)
    (hact : ∀ c u, (kind ≠ identifyKind → u.boot.phase = .running) → Carried sane u (act c u).1) : Carried sane s t :=
  carried_next hexec (carried_deliver _ _ _ _ _ (fun u hu => carried_parsed fun c => hact c u hu) .refl)

/-- A request that acts the same way however it is addressed. -/
theorem carried_anyAddress {p : Port} {dest kind : Byte} {payload : List Byte} {unit : State → State × Answer}
    (hexec : (.next (s.deliverAny p dest kind payload unit) : Host.Outcome State Fault Refusal) = .next t)
    (hact : ∀ u, Carried sane u (unit u).1) : Carried sane s t :=
  carried_next hexec (carried_deliver _ _ _ _ _ (fun u _ => hact u) hact)

/-- Every command carries the notice queue and the outputs; that a part in hard reset is in STARTING is the agreement of the
engines. -/
theorem exec_carried (c : Instr) (hexec : exec c s = .next t) : Carried (Scheduled s) s t := by
  have hport : ∀ p x, Carried (Scheduled s) s (s.setPort p x) := fun p x => (seenAlike_setPort s p x).carried
  have wait : ∀ n, Carried (Scheduled s) s (s.waitUntil n) := fun _ => SeenAlike.carried {}
  cases c with
  | identify p dest pl | readDevice p dest pl | readSummary p dest pl | readScan p dest pl | readOutputs p dest pl =>
    exact carried_plain hexec SeenAlike.refl
  | readLine p dest pl | readAmp p dest pl | readProfile p dest pl => exact carried_operands hexec fun _ u _ => .refl u
  | status p dest pl => exact carried_plain hexec seenAlike_clearStatusItems
  | poll p dest pl => exact carried_operands hexec fun m u _ => (seenAlike_pollAct m u).carried
  | setLine p dest pl order => exact carried_operands hexec fun c u _ => carried_setLineAct order c u
  | setAmp p dest pl order => exact carried_operands hexec fun c u _ => carried_applySetAmp c order u
  | setAmpWide p dest pl => exact carried_operands hexec fun c u _ => carried_applySetAmpWide c u
  | setProfile p dest pl => exact carried_operands hexec fun c u _ => carried_applySetProfile c u
  | setLevels p dest pl | setGroups p dest pl => exact carried_operands hexec fun _ _ _ => SeenAlike.carried {}
  | setScan p dest pl => exact carried_operands hexec fun c u _ => (seenAlike_applySetScan c u).carried
  | setPilot p dest pl order => exact carried_operands hexec fun c u _ => carried_applySetPilot c.1 order u
  | setEarth p dest pl => exact carried_operands hexec fun c u _ => (seenAlike_applySetEarth c u).carried
  | setOutput p dest pl => exact carried_operands hexec fun c u hu => carried_applySetOutput c (hu (by decide))
  | learn p dest pl => exact carried_operands hexec fun c u _ => carried_learnAct c u
  | abortLearn p dest pl => exact carried_operands hexec fun l u _ => (seenAlike_abortLearnAct l u).carried
  | testInject p dest pl => exact carried_operands hexec fun c u _ => (seenAlike_testInjectAct c u).carried
  | clearLatch p dest pl =>
    exact carried_anyAddress hexec fun u => carried_parsed fun xs => carried_clearLatchAct xs u
  | clearMinmax p dest pl => exact carried_operands hexec fun ls u _ => (seenAlike_clearMinmaxAct ls u).carried
  | emergency p dest pl =>
    exact carried_anyAddress hexec fun u => carried_parsed fun zones => carried_emergencyAct zones u
  | freeze p dest pl | unfreeze p dest pl =>
    exact carried_anyAddress hexec fun u => carried_noPayload _ (SeenAlike.carried {})
  | saveImage p dest pl => exact carried_plain hexec seenAlike_saveImageAct
  | restart p dest pl =>
    exact carried_next hexec (carried_deliver _ _ _ _ _
      (fun u _ => carried_noPayload _ (seenAlike_restartUnitAct u).carried) (carried_restartMultiAct pl))
  | unknownKind p dest kind pl =>
    exact carried_next hexec (.ite (.refl s) (carried_deliver _ _ _ _ _ (fun u _ => .refl u) .refl))
  | frameDropped p why | frameGapTimeout p | receiveOverrun p dest kind | frameStart p | frameIgnored p dest kind =>
    exact carried_next hexec (.ite (hport ..) (.refl s))
  | replyBegin p =>
    refine carried_next hexec ?_
    split
    · exact .ite (.refl s) ((wait _).trans (seenAlike_setPort ..).carried)
    · exact .refl s
  | replySent p =>
    refine carried_next hexec ?_
    split
    · next f hf =>
      have hdue : SeenAlike s { s with boot := { s.boot with restartDue := s.boot.dueAfter f } } := {}
      exact (hdue.trans (seenAlike_setPort ..)).carried
    · exact .refl s
  | softRestart =>
    refine carried_next hexec ?_
    split
    · exact carried_startUp ..
    · exact .refl s
  | powerOn | powerLoss => exact carried_next hexec (carried_hardStop ..)
  | pinReset => exact carried_next hexec (.ite (.refl s) (carried_hardStop ..))
  | resetRelease addr baud source =>
    refine carried_next hexec ?_
    split
    · next cause hp =>
      exact carried_release cause _ fun hs => starting_of_unpowered hs (by simp [State.poweredUp, hp])
    · exact .refl s
    · exact .refl s
  | loadStepEnd ack =>
    refine carried_next hexec ?_
    split
    · exact carried_finishLoad ..
    · exact .refl s
  | imageWriteEnd ack readBack =>
    refine carried_next hexec ?_
    split
    · exact .ite (carried_saveDone ..) (seenAlike_saveFailed ..).carried
    · exact .refl s
  | evacPinChange low => exact carried_next hexec (.ite (.refl s) (SeenAlike.carried {}))
  | evacFilterExpiry =>
    refine carried_next hexec ?_
    split
    · exact (wait _).trans (carried_filterEvac _)
    · exact .refl s
  | settleBlockEnd =>
    refine carried_next hexec ?_
    split
    · exact .ite (.refl s) (SeenAlike.carried {})
    · exact .refl s
  | sampleBlockEnd v i prog th su order =>
    refine carried_next hexec ?_
    split
    · exact .ite ((wait _).trans (carried_endSampleBlock ..)) (.refl s)
    · exact .refl s
  | periodCountComplete count =>
    refine carried_next hexec ?_
    split
    · split
      · exact .ite (SeenAlike.carried {}) (.refl s)
      all_goals exact .refl s
    · exact .refl s
  | periodCountGiveUp =>
    refine carried_next hexec ?_
    split
    · split
      · exact SeenAlike.carried {}
      all_goals exact .refl s
    · exact .refl s
  | periodWaitExpiry => exact carried_next hexec (.ite ((wait _).trans (seenAlike_startRound _).carried) (.refl s))
  | soakEnd bias =>
    refine carried_next hexec ?_
    split
    · exact (wait _).trans (carried_endSoak ..)
    all_goals exact .refl s
  | leakageBlockEnd code =>
    refine carried_next hexec ?_
    split
    · exact (wait _).trans (carried_endLeakageBlock ..)
    all_goals exact .refl s
  | pulsePhaseExpiry o =>
    refine carried_next hexec ?_
    split
    · next ph hpulse => exact carried_nextPulse o hpulse _
    · exact .refl s
  | freezeExpiry =>
    refine carried_next hexec ?_
    split
    · exact SeenAlike.carried {}
    · exact .refl s

/-- A step: with an empty queue nothing that NQ or FOUT looks at moves, else the front command is carried out. -/
theorem step_carried (hstep : step s = .next t) : Carried (Scheduled s) s t := by
  unfold step at hstep
  split at hstep
  · exact carried_next hstep (SeenAlike.carried {})
  · next rest _ =>
    have hpopped : Carried (Scheduled s) s { s with pending := rest } := SeenAlike.carried {}
    have hcommand := exec_carried _ hstep
    exact hpopped.trans ⟨hcommand.queue, fun hs => hcommand.outputs (scheduled_congr hs .of_parts)⟩

end

/-- Settles O8: the queue stays in order because it changes only by notices placed, which the three rules of placing keep in
order, and by entries that leave it. -/
theorem stepKeepsNoticeQueue : Obligations.StepKeepsNoticeQueue := by
  unfold Obligations.StepKeepsNoticeQueue
  refine ⟨fun s t h hstep => (noticesOk_iff t).mpr ((step_carried hstep).queue ((noticesOk_iff s).mp h)), fun q n => ?_⟩
  intro pair
  refine ⟨fun older e younger hq hothers he => ?_, fun hnew hroom => ?_,
    fun hnew hfull older e younger hq hleast holdest => ?_⟩
  · have hpair := (samePair_iff e n).mpr he
    rw [place_of_pair hq (fun x hx => mt (samePair_iff x n).mp (hothers x hx)) hpair, update_of_samePair hpair]
  · exact place_of_room (fun x hx => mt (samePair_iff x n).mp (hnew x hx)) hroom
  · exact place_of_full (fun x hx => mt (samePair_iff x n).mp (hnew x hx)) hfull hq hleast holdest

/-- Settles O12, an inductive invariant: whatever moves a counted subject, an ACTIVE condition or a latch has FOUT told of it,
and an output's own acts keep it in agreement with its settings and the phase. -/
theorem stepKeepsOutputsInAgreement : Obligations.StepKeepsOutputsInAgreement := by
  unfold Obligations.StepKeepsOutputsInAgreement
  intro s t hs h hstep
  exact (step_carried hstep).outputs hs h

end Sys2Proof.Machine.Reporting
end
